-- ==== Sys2Proof/Word.lean ====
section
/-! DEFINITION. The plain words of the 2730 and the bank: a fixed number of like things held as plain data
(spec/00_scope.md section 5, "Numbering from 0"). Nothing here is a rule of the spec. -/

namespace Sys2Proof

/-- One byte of a record, a frame or the return lane (R183: bits numbered 7, most significant, to 0). -/
abbrev Byte := BitVec 8

/-- A 16-bit wrapping counter or a two-byte field (R13, R90, R183). -/
abbrev Word16 := BitVec 16

/-- A 32-bit wrapping counter: the sheets-stacked total (R157). -/
abbrev Word32 := BitVec 32

/-- Two bytes as a number, the most significant first (R183: "Multi-byte fields are sent most significant byte first"). -/
abbrev word16 (hi lo : Byte) : Word16 := hi ++ lo

/-- `n` things of one kind, numbered 0 to `n - 1`: plain data, so that a bank can be compared and written out. -/
structure Bank (α : Type) (n : Nat) where
  items : List α
  size : items.length = n
  deriving DecidableEq, Repr

/-- The thing numbered `i`. -/
def Bank.get {α : Type} {n : Nat} (b : Bank α n) (i : Fin n) : α :=
  b.items[i.val]'(by rw [b.size]; exact i.isLt)

/-- The bank with the thing numbered `i` replaced. -/
def Bank.set {α : Type} {n : Nat} (b : Bank α n) (i : Fin n) (a : α) : Bank α n :=
  ⟨b.items.set i.val a, by rw [List.length_set, b.size]⟩

/-- Every thing of the bank changed alike. -/
def Bank.map {α β : Type} {n : Nat} (f : α → β) (b : Bank α n) : Bank β n :=
  ⟨b.items.map f, by rw [List.length_map, b.size]⟩

/-- The bank whose thing numbered `i` is `f i`. -/
def Bank.ofFn {α : Type} {n : Nat} (f : Fin n → α) : Bank α n :=
  ⟨List.ofFn f, List.length_ofFn⟩

/-- Every thing of the bank changed by its number and its value. -/
def Bank.mapIdx {α β : Type} {n : Nat} (f : Fin n → α → β) (b : Bank α n) : Bank β n :=
  Bank.ofFn fun i => f i (b.get i)

/-- `n` copies of one thing. -/
def Bank.replicate {α : Type} (n : Nat) (a : α) : Bank α n :=
  ⟨List.replicate n a, List.length_replicate⟩

/-- The bank with the thing numbered `i` changed by `f`. -/
def Bank.modify {α : Type} {n : Nat} (b : Bank α n) (i : Fin n) (f : α → α) : Bank α n :=
  b.set i (f (b.get i))

end Sys2Proof
end

