-- ==== Sys2Proof/Syntax.lean ====
section
/-! DEFINITION. The commands of the 2730: one constructor of `Instr` for each row of spec/opcode_table.json
(spec/95_what_each_step_holds.md: the part's steps, each whole and indivisible). -/

namespace Sys2Proof

/-- The two channel ports, A and B (spec/00_scope.md section 2.1). -/
inductive Port where
  | a
  | b
  deriving DecidableEq, Repr

/-- A stream number, 0 to 7 (R1). -/
abbrev StreamNo := Fin 8

/-- One raw sample of the panel's three keys: for each key, whether it is found pressed (R188). -/
structure KeySample where
  start : Bool
  stop : Bool
  reset : Bool
  deriving DecidableEq, Repr

/-- The commands. A record's command is the fall of the port's FRAME that ends that record: the record itself is
the bytes that BYTE_STROBE has put in the port (log entry 1). A composer command (`take…`) is the taking
of one granted record, whole (R59); a panel command is one 4 ms sample of the keys (R188). -/
inductive Instr where
  /-- POWER_ON_RESET (R192): power is applied. -/
  | powerOnReset
  /-- PORT_RESET (R182): the rise of the port's RESET line. -/
  | portReset (p : Port)
  /-- RESET_RELEASE (R182): the fall of the port's RESET line. -/
  | resetRelease (p : Port)
  /-- FRAME_RISE (R170): the host raises the port's FRAME line. -/
  | frameRise (p : Port)
  /-- ANSWER_RETURN (R171): the host acknowledges `n` bytes of the answer the port is returning. -/
  | answerReturn (p : Port) (n : Nat)
  /-- PRINT (R11): the end event of a PRINT record. -/
  | print (p : Port)
  /-- MARK (R7): the end event of a MARK record. -/
  | mark (p : Port)
  /-- CLOSE (R39): the end event of a CLOSE record. -/
  | close (p : Port)
  /-- SENSE_DEVICE (R176): the end event of a SENSE DEVICE record. -/
  | senseDevice (p : Port)
  /-- SENSE_STREAM (R176): the end event of a SENSE STREAM record. -/
  | senseStream (p : Port)
  /-- SENSE_MARK (R178): the end event of a SENSE MARK record. -/
  | senseMark (p : Port)
  /-- STREAM_OPEN (R16, R17): the end event of a STREAM OPEN record. -/
  | streamOpen (p : Port)
  /-- STREAM_RELEASE (R18): the end event of a STREAM RELEASE record. -/
  | streamRelease (p : Port)
  /-- CANCEL (R19): the end event of a CANCEL record. -/
  | cancel (p : Port)
  /-- FORM_LOAD (R28): the end event of a FORM LOAD record. -/
  | formLoad (p : Port)
  /-- FORM_SELECT (R42): the end event of a FORM SELECT record. -/
  | formSelect (p : Port)
  /-- PORT_SET (R181): the end event of a PORT SET record. -/
  | portSet (p : Port)
  /-- STOP (R185): the end event of a STOP record. -/
  | stop (p : Port)
  /-- RESUME (R187): the end event of a RESUME record. -/
  | resume (p : Port)
  /-- ENGINE_SET (R153): the end event of an ENGINE SET record. -/
  | engineSet (p : Port)
  /-- XLATE_LOAD (R50): the end event of an XLATE LOAD record. -/
  | xlateLoad (p : Port)
  /-- PAIR_LOAD (R52): the end event of a PAIR LOAD record. -/
  | pairLoad (p : Port)
  /-- PAIR_CLEAR (R54): the end event of a PAIR CLEAR record. -/
  | pairClear (p : Port)
  /-- GEOMETRY_LOAD (R109): the end event of a GEOMETRY LOAD record. -/
  | geometryLoad (p : Port)
  /-- STREAM_SET (R15): the end event of a STREAM SET record. -/
  | streamSet (p : Port)
  /-- OVERLAY_BEGIN (R124): the end event of an OVERLAY BEGIN record. -/
  | overlayBegin (p : Port)
  /-- OVERLAY_ENTRIES (R125): the end event of an OVERLAY ENTRIES record. -/
  | overlayEntries (p : Port)
  /-- OVERLAY_END (R124): the end event of an OVERLAY END record. -/
  | overlayEnd (p : Port)
  /-- TAKE_PRINT (R66): the composer grants a stream whose head record is PRINT. -/
  | takePrint
  /-- TAKE_MARK (R73): the composer grants a stream whose head record is MARK. -/
  | takeMark
  /-- TAKE_CLOSE (R74): the composer grants a stream whose head record is CLOSE. -/
  | takeClose
  /-- TAKE_XLATE_LOAD (R51): the composer grants a stream whose head record is XLATE LOAD. -/
  | takeXlateLoad
  /-- TAKE_PAIR_LOAD (R53): the composer grants a stream whose head record is PAIR LOAD. -/
  | takePairLoad
  /-- TAKE_PAIR_CLEAR (R54): the composer grants a stream whose head record is PAIR CLEAR. -/
  | takePairClear
  /-- TAKE_GEOMETRY_LOAD (R110): the composer grants a stream whose head record is GEOMETRY LOAD. -/
  | takeGeometryLoad
  /-- TAKE_STREAM_SET (R79): the composer grants a stream whose head record is STREAM SET. -/
  | takeStreamSet
  /-- TAKE_OVERLAY_BEGIN (R126): the composer grants a stream whose head record is OVERLAY BEGIN. -/
  | takeOverlayBegin
  /-- TAKE_OVERLAY_ENTRIES (R129): the composer grants a stream whose head record is OVERLAY ENTRIES. -/
  | takeOverlayEntries
  /-- TAKE_OVERLAY_END (R130): the composer grants a stream whose head record is OVERLAY END. -/
  | takeOverlayEnd
  /-- PAGE_AGE_EXPIRY (R62): the page-age timer of stream `i` runs out. -/
  | pageAgeExpiry (i : StreamNo)
  /-- SELECTION (R140): the imaging arbiter selects the next page. -/
  | selection
  /-- RENDERING_COMPLETE (R142): the rendering under way completes. -/
  | renderingComplete
  /-- SHEET (R155): the Engine Link issues a copy. -/
  | sheet
  /-- SEND_COMPLETE (R156): the last row of a copy's raster data has been sent. -/
  | sendComplete
  /-- READY (R166): the engine's READY report. -/
  | ready
  /-- NOT_READY (R165): the engine's NOT READY report. -/
  | notReady
  /-- TRAY_EMPTY (R165): the engine's TRAY EMPTY report with its tray number. -/
  | trayEmpty (tray : Nat)
  /-- STACKER_FULL (R165): the engine's STACKER FULL report with its stacker number. -/
  | stackerFull (stacker : Nat)
  /-- STACKED (R157): the engine's STACKED report with its tag, 0 to 15. -/
  | stacked (tag : BitVec 4)
  /-- JAM (R161): the engine's JAM report. -/
  | jam
  /-- RESTARTED (R165): the engine's RESTARTED report. -/
  | restarted
  /-- UNRECOGNISED_REPORT (R149): a report that is none of the table of R149. -/
  | unrecognisedReport (code : Byte)
  /-- STACK_TIMEOUT (R160): the stack timer runs out. -/
  | stackTimeout
  /-- PANEL_START (R187): the panel sample at which the keys give START. -/
  | panelStart (k : KeySample)
  /-- PANEL_STOP (R185): the panel sample at which the keys give STOP. -/
  | panelStop (k : KeySample)
  /-- PURGE (R190): the panel sample at which the keys give PURGE. -/
  | purge (k : KeySample)
  /-- BYTE_STROBE (R170): the host strobes one byte on the port. -/
  | byteStrobe (p : Port) (b : Byte)
  /-- KEY_SAMPLE (R188): a panel sample at which the keys give no command. -/
  | keySample (k : KeySample)
  deriving DecidableEq, Repr

end Sys2Proof
end

