-- ==== Sys2Proof/Decode.lean ====
section
/-! DEFINITION. The command a table word spells. No row of spec/opcode_table.json gives a word's bits: its rows have
empty "fields" and no "fixed" (spec/98_reader.md: n_rows_with_fixed 0, n_rows_with_fields 0). The byte layouts the
spec does give are those of records (R183): the gate reads them in Machine/Operands.lean. -/

namespace Sys2Proof

/-- No row of the table has bits, so no word spells a command (log entry 26). -/
def decodeTableWord (_nbits _w : Nat) : Option Instr := none

end Sys2Proof
end

