-- ==== Sys2Proof/Config.lean ====
section
/-! DEFINITION. What the spec leaves free: the drawings of the Glyph Store ("The matrices themselves are not reproduced
in this volume", R57), and the sizes the spec fixes. -/

namespace Sys2Proof

/-- The two cells of the Glyph Store (R56). -/
inductive CellSize where
  | standard
  | condensed
  deriving DecidableEq, Repr

namespace Config

/-- FREE VALUE (log entry 2). Whether the matrix of glyph `g` in the named cell is black at the given column and row. R57 says
which glyphs have no black dot; of every other glyph the spec prints no matrix, so nothing is known of this function. -/
opaque glyphMatrix : (cell : CellSize) → (g : Fin 384) → (column row : Nat) → Bool

/-- Spool slots (R20). -/
abbrev spoolSlots : Nat := 2048

/-- Page records (R86). -/
abbrev pageRecords : Nat := 64

/-- Line slots of the line store (R88). -/
abbrev lineSlots : Nat := 4096

/-- Entries of a full pair table (R46). -/
abbrev pairEntries : Nat := 128

/-- Marks a page can hold (R86, R97). -/
abbrev pageMarks : Nat := 8

/-- Blank pages made at most at one page open (R96). -/
abbrev blankPages : Nat := 16

end Config

end Sys2Proof
end

