-- ==== Sys2Proof/Machine/State.lean ====
section
/-! DEFINITION. The state of the 2730, block by block, as plain data; the reasons a step can stop; and the machine right
after power-on reset (R192). Counts that the spec defines from other state (free slots, free records, pin counts, the
outstanding count, the lamps) are functions of Machine/Ops.lean over the one home their data has here. -/

namespace Sys2Proof.Machine

/-- No command of the 2730 ends in a fault: the spec gives every command an effect in every state (log entry 3). The
type is closed and empty. -/
inductive Fault where
  deriving DecidableEq, Repr

/-- The reasons a command is refused by the model. -/
inductive Refusal where
  /-- Raised by an arm of `exec` whose command has no meaning yet; no arm raises it. Safe: nothing is claimed of such a command. -/
  | notModelled (mnemonic : String)
  deriving DecidableEq, Repr

/-! ### Records and conditions -/

/-- The eleven refusal reasons (R172). -/
inductive Reason where
  | classInvalid | streamNotOpen | streamBusy | length | shortRecord | carriageInvalid | formInUse | controlInvalid
  | operandRange | streamActive | notStopped
  deriving DecidableEq, Repr

/-- The 21 stream condition kinds, in the table order of R13. -/
inductive Cond where
  | classInvalid | streamNotOpen | streamBusy | length | shortRecord | carriageInvalid | truncated
  | skipUnresolved | formInUse
  | controlInvalid | operandRange | streamActive | notStopped
  | voidCode | collision | tableFull
  | markOverrun | syncDone
  | overlaySequence | overlayIncomplete
  | clipped
  deriving DecidableEq, Repr

/-- The seven device conditions, in the order of R167 and of byte 16 of the DEVICE frame (R183). -/
inductive DevCond where
  | jam | stackTimeout | lateStack | sequence | trayEmpty | stackerFull | engineNotReady
  deriving DecidableEq, Repr

/-- Line pitch: 6 or 8 lines per inch (R25). -/
inductive Pitch where
  | six | eight
  deriving DecidableEq, Repr

/-- Tray 1 or 2 (R86). -/
inductive Tray where
  | one | two
  deriving DecidableEq, Repr

/-- Stacker 1 or 2 (R86). -/
inductive Stacker where
  | one | two
  deriving DecidableEq, Repr

/-- The blank-forms attribute (R15, R96). -/
inductive BlankForms where
  | discard | print
  deriving DecidableEq, Repr

/-- A glyph number, 0 to 383 (R44). -/
abbrev Glyph := Fin 384

/-- A mark number. The spec's are 1 to 15 (R44); 0 is carried by no entry, "absent" being `none`. -/
abbrev MarkNo := Fin 16

/-- A translate entry (R44): a glyph number and a mark number are present for the kind GLYPH alone. -/
inductive XlateEntry where
  | glyph (g : Glyph) (mark : Option MarkNo)
  | space
  | underscore
  | void
  deriving DecidableEq, Repr

/-- A pair table entry (R46); (glyph, mark) is its key. -/
structure PairEntry where
  glyph : Glyph
  mark : MarkNo
  composite : Glyph
  deriving DecidableEq, Repr

/-- A geometry entry (R107): margins and spans in dots. -/
structure Geometry where
  mx : Nat
  my : Nat
  sx : Nat
  sy : Nat
  deriving DecidableEq, Repr

/-- The seven attribute fields STREAM SET carries (R12, R15). -/
structure Attributes where
  tableSet : Fin 2
  geometry : Fin 8
  overlay : Option (Fin 8)
  tray : Tray
  stacker : Stacker
  copies : Nat
  blankForms : BlankForms
  deriving DecidableEq, Repr

/-- The density of a band (R123). -/
inductive Density where
  | quarter | half
  deriving DecidableEq, Repr

/-- The kind of an overlay entry with the extents that kind has (R123). -/
inductive Shape where
  | hrule (length thickness : Nat)
  | vrule (length thickness : Nat)
  | band (width height : Nat) (density : Density)
  deriving DecidableEq, Repr

/-- One rule or band, repeated (R123). -/
structure OverlayEntry where
  shape : Shape
  x : Nat
  y : Nat
  repeatCount : Nat
  step : Nat
  deriving DecidableEq, Repr

/-- What a queued record asks for, its operands read and clamped (R2, R15, R50, R52, R54, R109, R124, R125). -/
inductive Body where
  | print (data : List Byte)
  | mark (id : Word16)
  | close
  | xlateLoad (set : Fin 2) (first : Nat) (entries : List XlateEntry)
  | pairLoad (set : Fin 2) (entries : List PairEntry)
  | pairClear (set : Fin 2)
  | geometryLoad (entry : Fin 8) (values : Geometry)
  | streamSet (attributes : Attributes)
  | overlayBegin (slot : Fin 8) (declared : Nat)
  | overlayEntries (entries : List OverlayEntry)
  | overlayEnd
  deriving DecidableEq, Repr

/-- A carriage action (R1): NONE, SPACE n or SKIP c. -/
inductive Action where
  | none
  | space (n : Nat)
  | skip (c : Nat)
  deriving DecidableEq, Repr

/-- A resolved record as a spool slot holds it (R3): the record as received (its data as the gate read it: log entry 29) together with
the six resolved fields. The stream is that of the queue, and the class that of the body. -/
structure Resolved where
  body : Body
  /-- the carriage action as received, kind and number (R1); `advance` is what it resolved to -/
  action : Action
  sync : Bool
  halt : Bool
  sequence : Word16
  line : Nat
  length : Nat
  pitch : Pitch
  width : Nat
  advance : Bool
  deriving DecidableEq, Repr

/-! ### Forms and the carriage shadow -/

/-- One stop entry (R25): a line and its class set, bit `c` set for class `c` (R183). -/
structure StopEntry where
  line : Nat
  classes : Byte
  deriving DecidableEq, Repr

/-- A form record (R25). -/
structure Form where
  length : Nat
  pitch : Pitch
  overflowLine : Nat
  stops : List StopEntry
  deriving DecidableEq, Repr

/-- A form and a width named by FORM SELECT (R29, R41). -/
structure Select where
  form : Fin 4
  width : Nat
  deriving DecidableEq, Repr

/-- A stream's carriage shadow (R29). -/
structure Carriage where
  form : Fin 4
  width : Nat
  pending : Option Select
  line : Nat
  sequence : Word16
  started : Bool
  deriving DecidableEq, Repr

/-! ### Line composer -/

/-- A cell of an assembly buffer (R65). -/
structure Cell where
  base : Option Glyph
  baseMark : Option MarkNo
  overGlyph : Option Glyph
  weight : Nat
  underline : Bool
  deriving DecidableEq, Repr

/-- An OPEN assembly buffer (R64). The highest non-empty position is read off the cells. -/
structure Assembly where
  sequence : Word16
  line : Nat
  tableSet : Fin 2
  length : Nat
  pitch : Pitch
  width : Nat
  cells : Bank Cell 160
  deriving DecidableEq, Repr

/-- A cell as a composed line holds it: without the base mark (R71). -/
structure LineCell where
  base : Option Glyph
  overGlyph : Option Glyph
  weight : Nat
  underline : Bool
  deriving DecidableEq, Repr

/-- A composed line (R71); its cells stand at positions 1, 2, and so on. -/
structure ComposedLine where
  sequence : Word16
  line : Nat
  length : Nat
  pitch : Pitch
  width : Nat
  cells : List LineCell
  deriving DecidableEq, Repr

/-- A page-age timer (R62). RUNNING holds the limit it was started with, in units of 100 ms; what remains of it is time (log entry 4). -/
inductive AgeTimer where
  | stopped
  | running (units : Nat)
  | expired
  deriving DecidableEq, Repr

/-- A stream's wait reason (R14). FENCE and PIN name the table set and the slot that is waited for (R80, R126). -/
inductive Wait where
  | none
  | fence (set : Fin 2)
  | pin (slot : Fin 8)
  | sync
  | store
  deriving DecidableEq, Repr

/-! ### Stream table -/

/-- A stream record (R12) with everything else the blocks keep per stream: its spool queue (R20), carriage shadow
(R29), assembly buffer, page-age timer and fence claim (R62, R64, R81) and per-stream page state (R90). -/
structure Stream where
  binding : Option Port
  quota : Nat
  composerPriority : Fin 4
  imagingPriority : Fin 4
  pageAgeLimit : Nat
  eventMask : Bank Bool 21
  carriage : Carriage
  attributes : Attributes
  wait : Wait
  counts : Bank Nat 21
  recordsTaken : Word16
  linesComposed : Word16
  pagesStacked : Word16
  syncsCompleted : Byte
  marksDelivered : Word16
  queue : List Resolved
  buffer : Option Assembly
  pageAge : AgeTimer
  fenceClaim : Option (Fin 2)
  pageCounter : Nat
  lastLined : Option Word16
  blankFormsCounter : Word16
  deriving DecidableEq, Repr

/-! ### Translate store, page store, overlay store -/

/-- A table set (R44, R46): a translate table and a pair table in ascending key order. -/
structure TableSet where
  xlate : Bank XlateEntry 256
  pairs : List PairEntry
  deriving DecidableEq, Repr

/-- The states of a page record in the store (R86, R87); `opened` is OPEN. STACKED is left in the event that enters it, by freeing. -/
inductive PageState where
  | opened | closed | imaging | issued
  deriving DecidableEq, Repr

/-- The name by which the buffers, the tag ring and the recovery list refer to a page record: its stream and page number
(R90) and its place in the order of opening, which stays its own where a page number comes round again (log entry 13). -/
structure PageRef where
  stream : StreamNo
  number : Nat
  serial : Nat
  deriving DecidableEq, Repr

/-- A page record (R86). `serial` is the model's own: the page's place in the order of opening (log entry 13). -/
structure Page where
  stream : StreamNo
  number : Nat
  serial : Nat
  state : PageState
  sequence : Word16
  blank : Bool
  geometry : Geometry
  length : Nat
  pitch : Pitch
  width : Nat
  cellSize : CellSize
  overlay : Option (Fin 8)
  tray : Tray
  stacker : Stacker
  copies : Nat
  copiesIssued : Nat
  copiesStacked : Nat
  syncPoint : Bool
  clipped : Bool
  marks : List Word16
  lines : List ComposedLine
  reservation : Nat
  deriving DecidableEq, Repr

/-- The state of an overlay slot; LOADING has the holder of the load (R122). -/
inductive SlotState where
  | empty
  | loading (holder : StreamNo)
  | ready
  deriving DecidableEq, Repr

/-- An overlay slot (R122). Its pin count is the number of page records naming it (R132), counted in Machine/Ops.lean. -/
structure OverlaySlot where
  state : SlotState
  entries : List OverlayEntry
  declared : Nat
  deriving DecidableEq, Repr

/-! ### Sheet imager and engine link -/

/-- The states of a raster buffer (R136). -/
inductive RasterState where
  | free | rendering | ready | sending
  deriving DecidableEq, Repr

/-- A raster buffer (R136). `overlayReady` is the slot state read at selection (R140 step 4). `dots` holds the rows of
the sheet, top first, each from column 0, `true` for black. -/
structure Raster where
  state : RasterState
  page : Option PageRef
  width : Nat
  height : Nat
  overlayReady : Bool
  dots : List (List Bool)
  deriving DecidableEq, Repr

/-- A sheet size in dots (R151). -/
structure SheetSize where
  width : Nat
  height : Nat
  deriving DecidableEq, Repr

/-- Which bit of a byte carries the leftmost of its 8 dots (R145). -/
inductive BitOrder where
  | leftmostInMsb | leftmostInLsb
  deriving DecidableEq, Repr

/-- How a black dot is sent (R145). -/
inductive Polarity where
  | blackAsOne | blackAsZero
  deriving DecidableEq, Repr

/-- The engine settings (R151). -/
structure EngineSettings where
  pathDepth : Nat
  stackTimeout : Nat
  tray1 : SheetSize
  tray2 : SheetSize
  bitOrder : BitOrder
  polarity : Polarity
  deriving DecidableEq, Repr

/-- A tag ring entry (R154). -/
structure TagEntry where
  page : PageRef
  dataComplete : Bool
  deriving DecidableEq, Repr

/-- A SHEET request as sent on the engine link (R149). -/
structure SheetRequest where
  tag : BitVec 4
  tray : Tray
  stacker : Stacker
  width : Nat
  height : Nat
  deriving DecidableEq, Repr

/-! ### Channel ports -/

/-- The reception states of a port (R170). -/
inductive Reception where
  | idle | receiving | answering
  deriving DecidableEq, Repr

/-- A mark capture (R177). -/
structure Capture where
  stream : StreamNo
  markId : Word16
  page : Nat
  stacker : Stacker
  total : Word32
  deriving DecidableEq, Repr

/-- An attention cause set (R179): each cause is in it at most once. -/
structure Causes where
  streams : Bank Bool 8
  mark : Bool
  device : Bool
  run : Bool
  deriving DecidableEq, Repr

/-- A channel port (R170, R171, R177, R179, R181), with the levels of its FRAME and RESET lines, which later events read
(R170, R182). `bytes` are the header and data bytes kept. `acknowledged` and `returned` are what the host has seen of
the port: whether the last byte strobed was acknowledged, and the bytes of the answer returned so far (log entry 5). -/
structure PortState where
  frame : Bool
  reset : Bool
  reception : Reception
  count : Nat
  bytes : List Byte
  ranLong : Bool
  acknowledged : Bool
  answer : List Byte
  returned : List Byte
  causes : Causes
  deviceSet : Bank Bool 7
  hold : Bool
  capture : Option Capture
  renewed : Bool
  deriving DecidableEq, Repr

/-! ### Run control -/

/-- The run states (R184). -/
inductive RunState where
  | run | stopping | stopped | check
  deriving DecidableEq, Repr

/-- The causes (R184). -/
inductive Cause where
  | panel | control | halt | jam | notReady | trayEmpty | stackerFull | engineRestart | purge
  deriving DecidableEq, Repr

/-- A key's debounced state and its previous raw sample (R188). -/
structure Key where
  pressed : Bool
  raw : Bool
  deriving DecidableEq, Repr

/-- The panel's three keys (R188). -/
structure Keys where
  start : Key
  stop : Key
  reset : Key
  deriving DecidableEq, Repr

/-! ### The taking under way -/

/-- A composer taking under way between its grant and the moment its effects stand (R59). -/
inductive UnderWay where
  /-- the taking of the head record of the stream's queue -/
  | granted (i : StreamNo)
  /-- a taking whose record a cancellation discarded with its queue: it "has no effect" (R19); `body` is what the record asked for -/
  | discarded (body : Body)
  deriving DecidableEq, Repr

/-! ### The machine -/

/-- The state of the 2730 and the queue of the commands that wait, first in, first out. -/
structure State where
  /-- the commands that wait, the front first -/
  pending : List Instr
  /-- the channel ports A and B (R170 to R182) -/
  ports : Bank PortState 2
  /-- the eight stream records (R12) with the per-stream state of the other blocks -/
  streams : Bank Stream 8
  /-- the four form records (R25) -/
  forms : Bank Form 4
  /-- the two table sets (R44, R46) -/
  tables : Bank TableSet 2
  /-- the composer's round-robin pointer (R61) -/
  composerPointer : StreamNo
  /-- the composer taking under way, if any (R59, R185, R186; log entry 14) -/
  taking : Option UnderWay
  /-- the page records in the store, in the order of opening (R86, R102) -/
  pages : List Page
  /-- the model's own count of the pages opened since power-on: the next page's serial (log entry 13) -/
  pagesOpened : Nat
  /-- the eight geometry entries (R107) -/
  geometry : Bank Geometry 8
  /-- the eight overlay slots (R122) -/
  overlays : Bank OverlaySlot 8
  /-- the raster buffers X (0) and Y (1) (R136) -/
  buffers : Bank Raster 2
  /-- the offer order: the buffers that are not FREE, in the order of selection (R143) -/
  offer : List (Fin 2)
  /-- the imaging arbiter's round-robin pointer (R139) -/
  imagerPointer : StreamNo
  /-- the engine settings (R151) -/
  settings : EngineSettings
  /-- the engine's readiness: whether READY (R150) -/
  engineReady : Bool
  /-- the issue counter (R154) -/
  issue : BitVec 4
  /-- the confirm counter (R154) -/
  confirm : BitVec 4
  /-- the tag ring (R154) -/
  ring : Bank (Option TagEntry) 16
  /-- the stack timer: STOPPED, or RUNNING with the seconds it was started with (R159, log entry 4) -/
  stackTimer : Option Nat
  /-- the recovery list (R162) -/
  recovery : List PageRef
  /-- the sheets-stacked total (R157) -/
  sheetsStacked : Word32
  /-- the SHEET request last sent on the engine link (R149, log entry 5) -/
  request : Option SheetRequest
  /-- the raster rows of the copy last sent whole, each a list of bytes (R145, log entry 5) -/
  sentRows : List (List Byte)
  /-- the run state (R184) -/
  run : RunState
  /-- its cause (R184) -/
  cause : Cause
  /-- the panel keys (R188) -/
  keys : Keys
  deriving DecidableEq, Repr

/-! ### Power-on reset -/

/-- The default form (R26). -/
def Form.default : Form where
  length := 66
  pitch := .six
  overflowLine := 63
  stops := [⟨1, 0x02#8⟩, ⟨63, 0x80#8⟩]

/-- A carriage shadow after a reset of it (R29). -/
def Carriage.initial : Carriage where
  form := 0
  width := 132
  pending := none
  line := 1
  sequence := 1
  started := false

/-- The power-on values of the attribute fields (R12). -/
def Attributes.initial : Attributes where
  tableSet := 0
  geometry := 0
  overlay := none
  tray := .one
  stacker := .one
  copies := 1
  blankForms := .discard

/-- A stream record at power-on (R12, R23, R84, R90). -/
def Stream.initial : Stream where
  binding := none
  quota := 2048
  composerPriority := 2
  imagingPriority := 2
  pageAgeLimit := 0
  eventMask := .replicate 21 true
  carriage := .initial
  attributes := .initial
  wait := .none
  counts := .replicate 21 0
  recordsTaken := 0
  linesComposed := 0
  pagesStacked := 0
  syncsCompleted := 0
  marksDelivered := 0
  queue := []
  buffer := none
  pageAge := .stopped
  fenceClaim := none
  pageCounter := 1
  lastLined := none
  blankFormsCounter := 0

/-- The power-on entry of a translate table at index `i` (R48). -/
def XlateEntry.powerOn (i : Nat) : XlateEntry :=
  if i = 0x20 then .space
  else if 0x21 ≤ i ∧ i ≤ 0x5E then .glyph (Fin.ofNat 384 i) none
  else if i = 0x5F then .underscore
  else if 0x61 ≤ i ∧ i ≤ 0x7A then .glyph (Fin.ofNat 384 (i - 32)) none
  else .void

/-- A table set at power-on (R48, R49). -/
def TableSet.initial : TableSet where
  xlate := .ofFn fun i => XlateEntry.powerOn i.val
  pairs := []

/-- A geometry entry at power-on (R108). -/
def Geometry.default : Geometry where
  mx := 75
  my := 75
  sx := 2400
  sy := 3150

/-- An overlay slot at power-on (R122). -/
def OverlaySlot.initial : OverlaySlot where
  state := .empty
  entries := []
  declared := 1

/-- A FREE raster buffer: it holds nothing (R136; what its other fields read is log entry 20). -/
def Raster.free : Raster where
  state := .free
  page := none
  width := 0
  height := 0
  overlayReady := false
  dots := []

/-- The engine settings at power-on (R151). -/
def EngineSettings.initial : EngineSettings where
  pathDepth := 4
  stackTimeout := 20
  tray1 := ⟨2550, 3300⟩
  tray2 := ⟨3300, 5100⟩
  bitOrder := .leftmostInMsb
  polarity := .blackAsOne

/-- An empty attention cause set (R179). -/
def Causes.empty : Causes where
  streams := .replicate 8 false
  mark := false
  device := false
  run := false

/-- A port at power-on (R177, R181, R182). The spec gives no level of FRAME and RESET there, and no byte count, kept bytes or ran-long
note: they are taken as low, 0, none and no (log entry 6). -/
def PortState.initial : PortState where
  frame := false
  reset := false
  reception := .idle
  count := 0
  bytes := []
  ranLong := false
  acknowledged := false
  answer := []
  returned := []
  causes := .empty
  deviceSet := .replicate 7 false
  hold := false
  capture := none
  renewed := false

/-- A key at power-on: PRESSED, its previous raw sample taken as pressed (R188). -/
def Key.initial : Key where
  pressed := true
  raw := true

/-- The machine right after power-on reset (R192). The command queue is empty (log entry 26). -/
def State.reset : State where
  pending := []
  ports := .replicate 2 .initial
  streams := .replicate 8 .initial
  forms := .replicate 4 .default
  tables := .replicate 2 .initial
  composerPointer := 7
  taking := none
  pages := []
  pagesOpened := 0
  geometry := .replicate 8 .default
  overlays := .replicate 8 .initial
  buffers := .replicate 2 .free
  offer := []
  imagerPointer := 7
  settings := .initial
  engineReady := false
  issue := 0
  confirm := 0
  ring := .replicate 16 none
  stackTimer := none
  recovery := []
  sheetsStacked := 0
  request := none
  sentRows := []
  run := .stopped
  cause := .panel
  keys := ⟨.initial, .initial, .initial⟩

end Sys2Proof.Machine
end

