-- ==== Sys2Proof/Machine/Ops.lean ====
section
/-! DEFINITION. The named operations over the state: the one place where each kind of state is read and written, and the
counts the spec defines from state held elsewhere (R20, R88, R132, R154; log entry 23). -/

namespace Sys2Proof.Machine

/-- The outcome of a command. -/
abbrev Result := Host.Outcome State Fault Refusal

/-! ### Ports and streams -/

/-- The place of a port in the bank of ports. -/
def portIndex : Port → Fin 2
  | .a => 0
  | .b => 1

/-- The two ports, A first. -/
def allPorts : List Port := [.a, .b]

/-- The eight streams in ascending number. -/
def allStreams : List StreamNo := [0, 1, 2, 3, 4, 5, 6, 7]

def State.port (s : State) (p : Port) : PortState := s.ports.get (portIndex p)

def State.updPort (s : State) (p : Port) (f : PortState → PortState) : State :=
  { s with ports := s.ports.modify (portIndex p) f }

def State.stream (s : State) (i : StreamNo) : Stream := s.streams.get i

def State.updStream (s : State) (i : StreamNo) (f : Stream → Stream) : State :=
  { s with streams := s.streams.modify i f }

def State.setWait (s : State) (i : StreamNo) (w : Wait) : State :=
  s.updStream i fun t => { t with wait := w }

/-! ### Spool counts (R20, R21) -/

/-- Slots holding a record, over all queues. -/
def State.spoolUsed (s : State) : Nat := (s.streams.items.map fun t => t.queue.length).sum

/-- The spool's free count (R20): "the number of slots holding no record, 0 to 2048". -/
def State.spoolFree (s : State) : Nat := Config.spoolSlots - s.spoolUsed

/-- The queue count of a stream (R20). -/
def State.queueCount (s : State) (i : StreamNo) : Nat := (s.stream i).queue.length

/-! ### Page records and the counts of the Page Store (R86, R88, R132) -/

/-- The name by which buffers, the tag ring and the recovery list refer to a page (R90). -/
def Page.ref (p : Page) : PageRef := ⟨p.stream, p.number, p.serial⟩

def State.findPage (s : State) (r : PageRef) : Option Page := s.pages.find? fun p => decide (p.ref = r)

def State.updPage (s : State) (r : PageRef) (f : Page → Page) : State :=
  { s with pages := s.pages.map fun p => if p.ref = r then f p else p }

/-- The pages of a stream in the store, in page order (R102: the order of opening). -/
def State.pagesOf (s : State) (i : StreamNo) : List Page := s.pages.filter fun p => decide (p.stream = i)

/-- The stream's OPEN page (R90). -/
def State.openPage (s : State) (i : StreamNo) : Option Page :=
  s.pages.find? fun p => decide (p.stream = i ∧ p.state = .opened)

/-- The stream's most recently opened page in the store (R97, R99). -/
def State.newestPage (s : State) (i : StreamNo) : Option Page := (s.pagesOf i).getLast?

/-- Free records (R88): page records holding no page. -/
def State.freeRecords (s : State) : Nat := Config.pageRecords - s.pages.length

/-- Line slots holding a line. -/
def State.usedSlots (s : State) : Nat := (s.pages.map fun p => p.lines.length).sum

/-- Free line slots (R88). -/
def State.freeSlots (s : State) : Nat := Config.lineSlots - s.usedSlots

/-- The sum of the reservations of all OPEN pages (R88); a page not OPEN has reservation 0. -/
def State.reserved (s : State) : Nat := (s.pages.map fun p => p.reservation).sum

/-- Unreserved slots (R88): "free line slots less the sum of the reservations of all OPEN pages". -/
def State.unreserved (s : State) : Nat := s.freeSlots - s.reserved

/-- The pin count of an overlay slot (R132): the page records that name the slot, in every state. -/
def State.pinCount (s : State) (k : Fin 8) : Nat := s.pages.countP fun p => decide (p.overlay = some k)

/-- A freeing of store space ends every STORE wait (R83, R88). -/
def State.endStoreWaits (s : State) : State :=
  { s with streams := s.streams.map fun t => if t.wait = .store then { t with wait := .none } else t }

/-- Every PIN wait on a slot whose pin count has reached 0 ends (R128). -/
def State.endPinWaits (s : State) : State :=
  { s with streams := s.streams.map fun t =>
      match t.wait with
      | .pin k => if s.pinCount k = 0 then { t with wait := .none } else t
      | _ => t }

/-- Pages are discarded (R103): their records, lines, marks, reservations and pins go with them, they leave the recovery
list (R162), and where one was discarded the STORE waits end (R83; log entry 16) and the PIN waits that it held (R128). -/
def State.discardPages (s : State) (gone : Page → Bool) : State :=
  let out := (s.pages.filter gone).map Page.ref
  if out = [] then s
  else
    (State.endPinWaits
      { s with
        pages := s.pages.filter fun p => !gone p
        recovery := s.recovery.filter fun r => !decide (r ∈ out) }).endStoreWaits

/-! ### Overlay slots (R122) -/

def State.slot (s : State) (k : Fin 8) : OverlaySlot := s.overlays.get k

def State.updSlot (s : State) (k : Fin 8) (f : OverlaySlot → OverlaySlot) : State :=
  { s with overlays := s.overlays.modify k f }

/-- The slot of the stream's open load: the LOADING slot whose holder the stream is (R122). -/
def State.openLoad (s : State) (i : StreamNo) : Option (Fin 8) :=
  allStreams.find? fun k => decide ((s.slot k).state = .loading i)

/-! ### Tags (R154) -/

/-- The outstanding count (R154): "the issue counter minus the confirm counter, reckoned modulo 16". -/
def State.outstanding (s : State) : Nat := (s.issue - s.confirm).toNat

/-- The ring place of a tag. -/
def tagIndex (t : BitVec 4) : Fin 16 := ⟨t.toNat, t.isLt⟩

/-- The outstanding tags, oldest first: from the confirm counter up to one below the issue counter (R154). -/
def State.outstandingTags (s : State) : List (BitVec 4) :=
  (List.range s.outstanding).map fun k => s.confirm + BitVec.ofNat 4 k

/-- The pages of the outstanding sheets, in the order their sheets were issued (R162). -/
def State.outstandingPages (s : State) : List PageRef :=
  s.outstandingTags.filterMap fun t => (s.ring.get (tagIndex t)).map TagEntry.page

/-! ### Round robin (R61, R139) -/

/-- The streams in the order a round robin considers them: the stream after the pointer first, the pointer's last. -/
def robinOrder (pointer : StreamNo) : List StreamNo :=
  [pointer + 1, pointer + 2, pointer + 3, pointer + 4, pointer + 5, pointer + 6, pointer + 7, pointer]

/-- The least of the numbers of a list that starts with `n`. -/
def leastFrom (n : Int) : List Int → Int
  | [] => n
  | m :: ms => leastFrom (min n m) ms

/-- The candidate with the lowest number, and among those at that number the first in round-robin order. -/
def roundRobin (pointer : StreamNo) (candidate : StreamNo → Bool) (number : StreamNo → Int) : Option StreamNo :=
  match (robinOrder pointer).filter candidate with
  | [] => none
  | c :: cs =>
    let least := leastFrom (number c) (cs.map number)
    (c :: cs).find? fun i => decide (number i = least)

end Sys2Proof.Machine
end

