-- ==== Sys2Proof/Machine/Flags.lean ====
section
/-! DEFINITION. Conditions, attention and the ending status: the counting of a stream condition (R13), of a device
condition (R167), the cause sets (R179) and the status byte (R172, R183). -/

namespace Sys2Proof.Machine

/-- The place of a stream condition kind in the table order of R13: its enable and its byte of the STREAM CONDITIONS frame. -/
def Cond.index : Cond → Fin 21
  | .classInvalid => 0
  | .streamNotOpen => 1
  | .streamBusy => 2
  | .length => 3
  | .shortRecord => 4
  | .carriageInvalid => 5
  | .truncated => 6
  | .skipUnresolved => 7
  | .formInUse => 8
  | .controlInvalid => 9
  | .operandRange => 10
  | .streamActive => 11
  | .notStopped => 12
  | .voidCode => 13
  | .collision => 14
  | .tableFull => 15
  | .markOverrun => 16
  | .syncDone => 17
  | .overlaySequence => 18
  | .overlayIncomplete => 19
  | .clipped => 20

/-- The bit of a device condition in byte 16 of the DEVICE frame (R183). -/
def DevCond.index : DevCond → Fin 7
  | .jam => 0
  | .stackTimeout => 1
  | .lateStack => 2
  | .sequence => 3
  | .trayEmpty => 4
  | .stackerFull => 5
  | .engineNotReady => 6

/-- The condition kind counted for a refusal reason (R10). -/
def Reason.cond : Reason → Cond
  | .classInvalid => .classInvalid
  | .streamNotOpen => .streamNotOpen
  | .streamBusy => .streamBusy
  | .length => .length
  | .shortRecord => .shortRecord
  | .carriageInvalid => .carriageInvalid
  | .formInUse => .formInUse
  | .controlInvalid => .controlInvalid
  | .operandRange => .operandRange
  | .streamActive => .streamActive
  | .notStopped => .notStopped

/-- The reason byte of a refusal (R183). -/
def Reason.byte : Reason → Byte
  | .classInvalid => 0x01#8
  | .streamNotOpen => 0x02#8
  | .streamBusy => 0x03#8
  | .length => 0x04#8
  | .shortRecord => 0x05#8
  | .carriageInvalid => 0x06#8
  | .formInUse => 0x07#8
  | .controlInvalid => 0x08#8
  | .operandRange => 0x09#8
  | .streamActive => 0x0A#8
  | .notStopped => 0x0B#8

/-! ### Attention (R179) -/

/-- The four kinds of attention cause (R179). -/
inductive AttnCause where
  | stream (i : StreamNo)
  | mark
  | device
  | run
  deriving DecidableEq, Repr

/-- A cause joins a cause set; one already in it is not added twice (R179). -/
def Causes.join (c : Causes) : AttnCause → Causes
  | .stream i => { c with streams := c.streams.set i true }
  | .mark => { c with mark := true }
  | .device => { c with device := true }
  | .run => { c with run := true }

/-- A cause leaves a cause set (R180). -/
def Causes.remove (c : Causes) : AttnCause → Causes
  | .stream i => { c with streams := c.streams.set i false }
  | .mark => { c with mark := false }
  | .device => { c with device := false }
  | .run => { c with run := false }

/-- The attention flag (R179): "The flag is up exactly while the set is not empty." -/
def Causes.flag (c : Causes) : Bool := c.mark || c.device || c.run || c.streams.items.any id

def State.joinCause (s : State) (p : Port) (c : AttnCause) : State :=
  s.updPort p fun q => { q with causes := q.causes.join c }

/-- A cause joins the sets of both ports. -/
def State.joinBoth (s : State) (c : AttnCause) : State := (s.joinCause .a c).joinCause .b c

/-- The port's attention flag, shown on its ATTENTION line and lamp (R179, R191). -/
def State.attention (s : State) (p : Port) : Bool := (s.port p).causes.flag

/-- A stream condition is detected (R13): the count advances, stopping at 255; where the mask enables the kind and the
stream is bound, the stream's cause joins the bound port's set. -/
def State.countCond (s : State) (i : StreamNo) (k : Cond) : State :=
  let t := s.stream i
  let counted := s.updStream i fun u =>
    { u with counts := u.counts.modify k.index fun n => min 255 (n + 1) }
  match t.binding with
  | some p => if t.eventMask.get k.index then counted.joinCause p (.stream i) else counted
  | none => counted

/-- A stream condition is counted where a test finds it. -/
def State.countIf (s : State) (b : Bool) (i : StreamNo) (k : Cond) : State :=
  if b then s.countCond i k else s

/-- A device condition is detected (R167): the kind joins the set of both ports, and the device cause both cause sets. -/
def State.deviceCond (s : State) (d : DevCond) : State :=
  let add := fun q : PortState => { q with deviceSet := q.deviceSet.set d.index true }
  ((s.updPort .a add).updPort .b add).joinBoth .device

/-! ### Ending status (R172, R183) -/

/-- The one answer of a record (R4). -/
inductive Answer where
  | taken
  | held
  | refused (r : Reason)
  deriving DecidableEq, Repr

/-- Bits 7 and 6 of the ending status (R183). -/
def Answer.bits : Answer → BitVec 2
  | .taken => 0b01#2
  | .held => 0b10#2
  | .refused _ => 0b11#2

/-- The reason byte follows the status of a REFUSED record alone (R172). -/
def Answer.reasonBytes : Answer → List Byte
  | .refused r => [r.byte]
  | _ => []

/-- NOT RUNNING (R172): the run state is not RUN. -/
def State.notRunning (s : State) : Bool := decide (s.run ≠ .run)

/-- The ending status byte (R183): answer, OVERFLOW, ATTENTION, NOT RUNNING, then three zero bits. -/
def statusByte (a : Answer) (overflow attention notRunning : Bool) : Byte :=
  a.bits ++ BitVec.ofBool overflow ++ BitVec.ofBool attention ++ BitVec.ofBool notRunning ++ 0b000#3

end Sys2Proof.Machine
end

