-- ==== Sys2Proof/Machine/Carriage.lean ====
section
/-! DEFINITION. The Carriage Shadow (spec/02_vertical_format_and_the_carriage_shadow.md): motion, form boundaries, OVERFLOW,
the resolution of a record the gate takes, FORM SELECT and the test of a FORM LOAD. -/

namespace Sys2Proof.Machine

/-- The form record that governs a shadow (R29). -/
def Carriage.formOf (c : Carriage) (forms : Bank Form 4) : Form := forms.get c.form

/-- A stop entry's class set names class `c` (R183: bit `c` set for class `c`). -/
def StopEntry.stops (e : StopEntry) (c : Nat) : Bool := e.classes.getLsbD c

/-- The first entry, in the list's ascending order, from line `first` on, that stops class `c` (R35, R36). -/
def Form.stopFrom (f : Form) (first c : Nat) : Option Nat :=
  (f.stops.find? fun e => decide (first ≤ e.line) && e.stops c).map StopEntry.line

/-- A form boundary (R37): the sequence advances, a pending select applies, form started becomes no. The line is the mover's. -/
def Carriage.boundary (c : Carriage) : Carriage :=
  match c.pending with
  | some sel => { c with sequence := c.sequence + 1, form := sel.form, width := sel.width, pending := none, started := false }
  | none => { c with sequence := c.sequence + 1, started := false }

/-- The outcome of a PRINT record's motion (R31 steps 3 and 4). -/
structure Motion where
  after : Carriage
  overflow : Bool
  unresolved : Bool
  deriving DecidableEq, Repr

/-- SPACE n (R34), with OVERFLOW (R38) decided by the O of the form being left. -/
def Carriage.space (c : Carriage) (forms : Bank Form 4) (n : Nat) : Motion :=
  let f := c.formOf forms
  let t := c.line + n
  if t ≤ f.length then
    { after := { c with line := t }, overflow := decide (c.line < f.overflowLine ∧ f.overflowLine ≤ t), unresolved := false }
  else
    { after := { c.boundary with line := t - f.length }, overflow := decide (c.line < f.overflowLine), unresolved := false }

/-- SKIP c (R35, R36): a stop below the current line, or else one in the form begun at the boundary, or else line 1. -/
def Carriage.skip (c : Carriage) (forms : Bank Form 4) (cls : Nat) : Motion :=
  match (c.formOf forms).stopFrom (c.line + 1) cls with
  | some l => { after := { c with line := l }, overflow := false, unresolved := false }
  | none =>
    let b := c.boundary
    match (b.formOf forms).stopFrom 1 cls with
    | some l => { after := { b with line := l }, overflow := false, unresolved := false }
    | none => { after := { b with line := 1 }, overflow := false, unresolved := true }

/-- The motion of a PRINT record by its carriage action (R33 to R36). -/
def Carriage.move (c : Carriage) (forms : Bank Form 4) : Action → Motion
  | .none => { after := c, overflow := false, unresolved := false }
  | .space n => c.space forms n
  | .skip cls => c.skip forms cls

/-- The motion of a CLOSE record (R39). -/
def Carriage.close (c : Carriage) : Carriage :=
  if c.line = 1 then c else { c.boundary with line := 1 }

/-- The advance taken (R3, R32): a record advances where its action is SPACE or SKIP; a record of another class than PRINT carries NONE
(R7). -/
def Action.advances : Action → Bool
  | .none => false
  | .space _ => true
  | .skip _ => true

/-- A record stamped with the resolved fields of R3 (R31 step 1), beside what it carries: its body, its carriage action and its flags. -/
def Carriage.stamp (c : Carriage) (forms : Bank Form 4) (body : Body) (action : Action) (sync halt : Bool) : Resolved where
  body := body
  action := action
  sync := sync
  halt := halt
  sequence := c.sequence
  line := c.line
  length := (c.formOf forms).length
  pitch := (c.formOf forms).pitch
  width := c.width
  advance := action.advances

def State.setCarriage (s : State) (i : StreamNo) (c : Carriage) : State :=
  s.updStream i fun t => { t with carriage := c }

/-- The record is appended at the tail of its stream's queue (R11, R20). -/
def State.enqueue (s : State) (i : StreamNo) (r : Resolved) : State :=
  s.updStream i fun t => { t with queue := t.queue ++ [r] }

/-- A PRINT record is resolved, truncated (R9) and queued (R31); the second component is OVERFLOW. -/
def State.takePrintRecord (s : State) (i : StreamNo) (action : Action) (data : List Byte) (sync halt : Bool) : State × Bool :=
  let c := (s.stream i).carriage
  let r := c.stamp s.forms (.print (data.take c.width)) action sync halt
  let m := ({ c with started := true } : Carriage).move s.forms action
  let queued := (s.enqueue i r).setCarriage i m.after
  ((queued.countIf m.unresolved i .skipUnresolved).countIf (decide (c.width < data.length)) i .truncated, m.overflow)

/-- A CLOSE record is stamped, queued and moves the carriage (R39). -/
def State.takeCloseRecord (s : State) (i : StreamNo) (sync halt : Bool) : State :=
  let c := (s.stream i).carriage
  (s.enqueue i (c.stamp s.forms .close .none sync halt)).setCarriage i c.close

/-- A MARK or queued CONTROL record is stamped and queued; the carriage does not move (R40). -/
def State.takeStillRecord (s : State) (i : StreamNo) (body : Body) (sync halt : Bool) : State :=
  s.enqueue i ((s.stream i).carriage.stamp s.forms body .none sync halt)

/-- FORM SELECT (R42): at once at line 1 with form started no, and otherwise the pending select. -/
def Carriage.select (c : Carriage) (form : Fin 4) (width : Nat) : Carriage :=
  if c.line = 1 ∧ c.started = false then { c with form := form, width := width, pending := none }
  else { c with pending := some ⟨form, width⟩ }

/-- A bound stream's carriage blocks a load of form `f` (R28). -/
def Stream.blocksForm (t : Stream) (f : Fin 4) : Bool :=
  decide (t.binding ≠ none ∧ t.carriage.form = f ∧ (t.carriage.line ≠ 1 ∨ t.carriage.started = true))

/-- FORM IN USE (R28): some bound stream, on either port, blocks the load. -/
def State.formInUse (s : State) (f : Fin 4) : Bool := s.streams.items.any fun t => t.blocksForm f

end Sys2Proof.Machine
end

