-- ==== Sys2Proof/Machine/Placement.lean ====
section
/-! DEFINITION. Placement arithmetic (spec/06_placement_arithmetic.md): origins, cell size, extents and clipping. All of it is
on natural numbers, "Products are formed before division" (spec/00_scope.md section 5). -/

namespace Sys2Proof.Machine

/-- Lines per inch (R25). -/
def Pitch.lpi : Pitch → Nat
  | .six => 6
  | .eight => 8

/-- Width of a cell in dots (R56). -/
def cellWidth : CellSize → Nat
  | .standard => 24
  | .condensed => 16

/-- Height of a cell in rows (R56). -/
def cellHeight : CellSize → Nat
  | .standard => 40
  | .condensed => 26

/-- The native test of the horizontal direction (R112). -/
def fitsAcross (g : Geometry) (width : Nat) : Bool := decide (30 * width ≤ g.sx)

/-- The native test of the vertical direction (R114). -/
def fitsDown (g : Geometry) (length : Nat) (pitch : Pitch) : Bool := decide (length * 300 ≤ g.sy * pitch.lpi)

/-- x(p), for p from 1 to width + 1 (R112, R113). -/
def placeX (g : Geometry) (width p : Nat) : Nat :=
  if fitsAcross g width then g.mx + 30 * (p - 1) else g.mx + (p - 1) * g.sx / width

/-- y(l) (R114). -/
def placeY (g : Geometry) (length : Nat) (pitch : Pitch) (l : Nat) : Nat :=
  if fitsDown g length pitch then g.my + (l - 1) * 300 / pitch.lpi else g.my + (l - 1) * g.sy / length

/-- The cell size chosen at a page's open (R116). -/
def chooseCell (g : Geometry) (length : Nat) (pitch : Pitch) (width : Nat) : CellSize :=
  let stepBelow40 := if fitsDown g length pitch then decide (300 < 40 * pitch.lpi) else decide (g.sy < 40 * length)
  if decide (g.sx < 24 * width) || stepBelow40 then .condensed else .standard

/-- A composed line's cells with their positions, from position 1 (R71). -/
def positioned (cells : List LineCell) : List (Nat × LineCell) :=
  (cells.zipIdx 1).map fun c => (c.2, c.1)

/-- One past the last column an extent of a cell's glyphs reaches, where the cell draws a glyph (R117). -/
def LineCell.glyphRight (c : LineCell) (x w : Nat) : Nat :=
  match c.base, c.overGlyph with
  | some _, _ => x + w + (c.weight - 1)
  | none, some _ => x + w
  | none, none => 0

/-- The cell draws a glyph (R117). -/
def LineCell.drawsGlyph (c : LineCell) : Bool := c.base.isSome || c.overGlyph.isSome

/-- The cell is clipped (R119): the extent of one of its parts reaches a column at or beyond the sheet width or a row at or
beyond the sheet height. An underline whose step is 0 "draws nothing and has no extent" (R118). -/
def cellClipped (p : Page) (line position : Nat) (c : LineCell) (sheetWidth sheetHeight : Nat) : Bool :=
  let x := placeX p.geometry p.width position
  let y := placeY p.geometry p.length p.pitch line
  let right := placeX p.geometry p.width (position + 1)
  let low := decide (sheetHeight < y + cellHeight p.cellSize)
  (c.drawsGlyph && (decide (sheetWidth < c.glyphRight x (cellWidth p.cellSize)) || low))
    || (c.underline && decide (x < right) && (decide (sheetWidth < right) || low))

/-- A page is clipped when any of its lines is, and a line when any of its cells is (R119). -/
def pageClipped (p : Page) (sheetWidth sheetHeight : Nat) : Bool :=
  p.lines.any fun l => (positioned l.cells).any fun c => cellClipped p l.line c.1 c.2 sheetWidth sheetHeight

/-! ### What is black (R117, R118, R123, R141) -/

/-- A glyph's matrix is black at a column and row of the cell: glyphs 0 to 32 and 127 have no black dot (R57), and of the
others the matrix is free (log entry 2). -/
def glyphBlack (cell : CellSize) (g : Glyph) (column row : Nat) : Bool :=
  !(decide (g.val ≤ 32) || decide (g.val = 127)) && Config.glyphMatrix cell g column row

/-- The matrix of `g`, drawn with its top-left dot at (x, y), is black at the sheet dot (column, row) (R56). -/
def glyphInk (cell : CellSize) (g : Glyph) (x y column row : Nat) : Bool :=
  decide (x ≤ column ∧ column < x + cellWidth cell ∧ y ≤ row ∧ row < y + cellHeight cell)
    && glyphBlack cell g (column - x) (row - y)

/-- A cell's base glyph with its weight copies, each one dot further right (R117). -/
def baseInk (cell : CellSize) (c : LineCell) (x y column row : Nat) : Bool :=
  match c.base with
  | none => false
  | some g => (List.range c.weight).any fun k => glyphInk cell g (x + k) y column row

/-- A cell's over glyph, once at the origin (R117). -/
def overInk (cell : CellSize) (c : LineCell) (x y column row : Nat) : Bool :=
  match c.overGlyph with
  | none => false
  | some g => glyphInk cell g x y column row

/-- A cell's underline: the two lowest rows of the cell, from x(p) to x(p + 1) - 1 (R118). -/
def underlineInk (cell : CellSize) (c : LineCell) (x right y column row : Nat) : Bool :=
  c.underline && decide (x ≤ column ∧ column < right ∧ y + cellHeight cell - 2 ≤ row ∧ row < y + cellHeight cell)

/-- A page's lines are black at a sheet dot (R141 step 3). -/
def linesInk (p : Page) (column row : Nat) : Bool :=
  p.lines.any fun l => (positioned l.cells).any fun c =>
    let x := placeX p.geometry p.width c.1
    let y := placeY p.geometry p.length p.pitch l.line
    baseInk p.cellSize c.2 x y column row || overInk p.cellSize c.2 x y column row
      || underlineInk p.cellSize c.2 x (placeX p.geometry p.width (c.1 + 1)) y column row

/-- The dots a band makes black, by the sheet's own columns and rows (R123). -/
def Density.ink : Density → Nat → Nat → Bool
  | .half, column, row => decide ((column + row) % 2 = 0)
  | .quarter, column, row => decide (column % 2 = 0 ∧ row % 2 = 0)

/-- One copy of an overlay entry, offset by `d`, is black at a sheet dot (R123). -/
def OverlayEntry.copyInk (e : OverlayEntry) (d column row : Nat) : Bool :=
  match e.shape with
  | .hrule length thickness =>
    decide (e.x ≤ column ∧ column < e.x + length ∧ e.y + d ≤ row ∧ row < e.y + d + thickness)
  | .vrule length thickness =>
    decide (e.x + d ≤ column ∧ column < e.x + d + thickness ∧ e.y ≤ row ∧ row < e.y + length)
  | .band width height density =>
    decide (e.x ≤ column ∧ column < e.x + width ∧ e.y + d ≤ row ∧ row < e.y + d + height) && density.ink column row

/-- An overlay entry with all its copies, copy i offset by i × step (R123). -/
def OverlayEntry.ink (e : OverlayEntry) (column row : Nat) : Bool :=
  (List.range e.repeatCount).any fun i => e.copyInk (i * e.step) column row

/-- A rendered page's dot (R141): black where the overlay or the lines are, white elsewhere. -/
def pageInk (overlay : List OverlayEntry) (p : Page) (column row : Nat) : Bool :=
  overlay.any (fun e => e.ink column row) || linesInk p column row

/-- The raster of a page on a sheet: rows from the top, each from column 0 (R141). -/
def renderDots (overlay : List OverlayEntry) (p : Page) (sheetWidth sheetHeight : Nat) : List (List Bool) :=
  (List.range sheetHeight).map fun row => (List.range sheetWidth).map fun column => pageInk overlay p column row

end Sys2Proof.Machine
end

