-- ==== Sys2Proof/Machine/PageStore.lean ====
section
/-! DEFINITION. The Page Store (spec/05_page_records_and_the_page_store.md): the space test, the arrival of lines, page open
and close, blank pages, marks, SYNC, copies and stacking. -/

namespace Sys2Proof.Machine

/-! ### Opening and closing (R90, R92, R94, R96) -/

/-- The page counter advances by 1; "From 65535 the counter advances to 1" (R90). -/
def nextPageNumber (n : Nat) : Nat := if 65535 ≤ n then 1 else n + 1

/-- A page record with the values captured at open (R92), for a line's page or a blank page made at its opening (R96). -/
def Stream.newPage (t : Stream) (i : StreamNo) (serial : Nat) (g : Geometry) (ln : ComposedLine) (sequence : Word16)
    (blank : Bool) : Page where
  stream := i
  number := t.pageCounter
  serial := serial
  state := if blank then .closed else .opened
  sequence := sequence
  blank := blank
  geometry := g
  length := ln.length
  pitch := ln.pitch
  width := ln.width
  cellSize := chooseCell g ln.length ln.pitch ln.width
  overlay := t.attributes.overlay
  tray := t.attributes.tray
  stacker := t.attributes.stacker
  copies := t.attributes.copies
  copiesIssued := 0
  copiesStacked := 0
  syncPoint := false
  clipped := false
  marks := []
  lines := []
  reservation := if blank then 0 else ln.length

/-- A page record is made (R92, R96): it takes a free record and the next page number. -/
def State.makePage (s : State) (i : StreamNo) (ln : ComposedLine) (sequence : Word16) (blank : Bool) : State :=
  let t := s.stream i
  let page := t.newPage i s.pagesOpened (s.geometry.get t.attributes.geometry) ln sequence blank
  { s with pages := s.pages ++ [page], pagesOpened := s.pagesOpened + 1 }.updStream i
    fun u => { u with pageCounter := nextPageNumber u.pageCounter }

/-- The page-age timer at a page open (R62): RUNNING with the limit in force, or STOPPED where the limit is 0. -/
def Stream.ageAtOpen (t : Stream) : AgeTimer := if t.pageAgeLimit = 0 then .stopped else .running t.pageAgeLimit

/-- The stream's OPEN page closes (R94): it becomes CLOSED, its reservation is released, which ends every STORE wait where
slots were held back (R88), and the page-age timer stops (R62). -/
def State.closePage (s : State) (i : StreamNo) : State :=
  match s.openPage i with
  | none => s
  | some p =>
    let closed := (s.updPage p.ref fun q => { q with state := .closed, reservation := 0 }).updStream i
      fun t => { t with pageAge := .stopped }
    if 0 < p.reservation then closed.endStoreWaits else closed

/-- The forms passed over between the last lined form sequence and the line's: d - 1, and none where d is 0 or 1 or no line
has arrived (R96). -/
def Stream.passedOver (t : Stream) (ln : ComposedLine) : Nat :=
  match t.lastLined with
  | none => 0
  | some last => (ln.sequence - last).toNat - 1

/-- The blank pages a line's opening makes (R96): under PRINT, up to the 16 forms immediately before the line's. -/
def Stream.blanksFor (t : Stream) (ln : ComposedLine) : Nat :=
  match t.attributes.blankForms with
  | .discard => 0
  | .print => min (t.passedOver ln) Config.blankPages

/-- The blank pages of the `n` forms immediately before the line's, in ascending form sequence (R96). -/
def State.makeBlanks (s : State) (i : StreamNo) (ln : ComposedLine) : Nat → State
  | 0 => s
  | n + 1 => (s.makePage i ln (ln.sequence - BitVec.ofNat 16 (n + 1)) true).makeBlanks i ln n

/-- A line is appended to the stream's OPEN page (R93), charged to its reservation while that lasts (R88). -/
def State.appendLine (s : State) (i : StreamNo) (ln : ComposedLine) : State :=
  match s.openPage i with
  | none => s
  | some p => s.updPage p.ref fun q => { q with lines := q.lines ++ [ln], reservation := q.reservation - 1 }

/-- Steps 3 and 4 of R91: passed-over forms are counted and made blank pages, the line's page opens, the line joins it. -/
def State.openWith (s : State) (i : StreamNo) (ln : ComposedLine) : State :=
  let t := s.stream i
  let counted := s.updStream i fun u => { u with blankFormsCounter := u.blankFormsCounter + BitVec.ofNat 16 (t.passedOver ln) }
  let opened := (counted.makeBlanks i ln (t.blanksFor ln)).makePage i ln ln.sequence false
  (opened.updStream i fun u => { u with pageAge := u.ageAtOpen }).appendLine i ln

/-- A composed line arrives for a stream (R91). -/
def State.receiveLine (s : State) (i : StreamNo) (ln : ComposedLine) : State :=
  let placed :=
    match s.openPage i with
    | none => s.openWith i ln
    | some p => if p.sequence = ln.sequence then s.appendLine i ln else (s.closePage i).openWith i ln
  placed.updStream i fun u => { u with lastLined := some ln.sequence }

/-! ### The space test (R89) -/

/-- A line that opens a page finds a record for each blank page and one more, and unreserved slots for its form length. -/
def State.openingFits (s : State) (i : StreamNo) (ln : ComposedLine) : Bool :=
  decide ((s.stream i).blanksFor ln + 1 ≤ s.freeRecords ∧ ln.length ≤ s.unreserved)

/-- One line, at its turn, finds what it needs (R89). -/
def State.lineFits (s : State) (i : StreamNo) (ln : ComposedLine) : Bool :=
  match s.openPage i with
  | none => s.openingFits i ln
  | some p =>
    if p.sequence = ln.sequence then decide (0 < p.reservation ∨ 1 ≤ s.unreserved)
    else (s.closePage i).openingFits i ln

/-- The space test of a taking's lines, each arriving in turn (R89). -/
def State.spaceTest (s : State) (i : StreamNo) : List ComposedLine → Bool
  | [] => true
  | ln :: rest => s.lineFits i ln && (s.receiveLine i ln).spaceTest i rest

/-! ### Marks (R97, R98, R177) -/

/-- The port takes a delivered mark (R177): an unread capture is overwritten and RENEWED set. -/
def PortState.takeCapture (q : PortState) (c : Capture) : PortState :=
  { q with capture := some c, renewed := q.renewed || q.capture.isSome, causes := q.causes.join .mark }

/-- A mark is delivered (R98), with page number and stacker as given and the total as it stands; on an unbound stream it is
dropped. -/
def State.deliverMark (s : State) (i : StreamNo) (id : Word16) (number : Nat) (stacker : Stacker) : State :=
  match (s.stream i).binding with
  | none => s
  | some p =>
    (s.updStream i fun t => { t with marksDelivered := t.marksDelivered + 1 }).updPort p
      fun q => q.takeCapture ⟨i, id, number, stacker, s.sheetsStacked⟩

/-- Marks delivered one after another, in attachment order (R98). -/
def State.deliverMarks (s : State) (i : StreamNo) (number : Nat) (stacker : Stacker) : List Word16 → State
  | [] => s
  | id :: ids => (s.deliverMark i id number stacker).deliverMarks i number stacker ids

/-- The page a mark attaches to (R97): the OPEN page, or else the most recently opened in the store. -/
def State.markPage (s : State) (i : StreamNo) : Option Page :=
  match s.openPage i with
  | some p => some p
  | none => s.newestPage i

/-- A mark is attached, dropped with MARK OVERRUN, or delivered at once (R97, R98). -/
def State.attachMark (s : State) (i : StreamNo) (id : Word16) : State :=
  match s.markPage i with
  | some p =>
    if p.marks.length < Config.pageMarks then s.updPage p.ref fun q => { q with marks := q.marks ++ [id] }
    else s.countCond i .markOverrun
  | none => s.deliverMark i id 0 (s.stream i).attributes.stacker

/-! ### SYNC (R99, R100) -/

/-- A sync completes (R100). -/
def State.completeSync (s : State) (i : StreamNo) : State :=
  ((s.updStream i fun t => { t with syncsCompleted := t.syncsCompleted + 1 }).countCond i .syncDone).setWait i .none

/-- The SYNC flag at the Page Store (R99). -/
def State.syncPages (s : State) (i : StreamNo) : State :=
  match s.openPage i with
  | some p => ((s.closePage i).updPage p.ref fun q => { q with syncPoint := true }).setWait i .sync
  | none =>
    match s.newestPage i with
    | some p => (s.updPage p.ref fun q => { q with syncPoint := true }).setWait i .sync
    | none => s.completeSync i

/-! ### Copies and stacking (R101) -/

/-- The issue of a copy (R101): copies issued rises by 1 and the page is ISSUED. -/
def State.issueCopy (s : State) (r : PageRef) : State :=
  s.updPage r fun q => { q with copiesIssued := q.copiesIssued + 1, state := .issued }

/-- A page that has become STACKED is freed (R101 step 5): its record, lines and pin go, and every STORE wait and the
PIN waits its pin held end (R83, R128). -/
def State.freePage (s : State) (r : PageRef) : State :=
  (State.endPinWaits
    { s with pages := s.pages.filter fun p => !decide (p.ref = r) }).endStoreWaits

/-- A page becomes STACKED (R101): marks delivered, pages-stacked counted, a waiting sync completed, the page freed. -/
def State.stackPage (s : State) (p : Page) : State :=
  let marked := s.deliverMarks p.stream p.number p.stacker p.marks
  let counted := marked.updStream p.stream fun t => { t with pagesStacked := t.pagesStacked + 1 }
  let synced := if p.syncPoint ∧ (counted.stream p.stream).wait = .sync then counted.completeSync p.stream else counted
  synced.freePage p.ref

/-- The confirmation of a copy (R101): copies stacked rises by 1, and at copies the page becomes STACKED. -/
def State.confirmCopy (s : State) (r : PageRef) : State :=
  match s.findPage r with
  | none => s
  | some p =>
    let risen := s.updPage r fun q => { q with copiesStacked := q.copiesStacked + 1 }
    if p.copies ≤ p.copiesStacked + 1 then risen.stackPage p else risen

/-! ### CANCEL and PORT RESET (R103) -/

/-- The stream's OPEN and CLOSED pages are discarded, and the sync point of the pages kept becomes no (R103). -/
def State.cancelPages (s : State) (i : StreamNo) : State :=
  let left := s.discardPages fun p => decide (p.stream = i ∧ (p.state = .opened ∨ p.state = .closed))
  { left with pages := left.pages.map fun p => if p.stream = i then { p with syncPoint := false } else p }

end Sys2Proof.Machine
end

