-- ==== Sys2Proof/Machine/Overlay.lean ====
section
/-! DEFINITION. The Overlay Store's loads (spec/07_form_overlays.md): abandonment, begin, entries, end and auto-completion. -/

namespace Sys2Proof.Machine

/-- A stream's open load is abandoned (R126 step 1, R134): its slot becomes EMPTY, the list left as it stands. -/
def State.abandonLoad (s : State) (i : StreamNo) : State :=
  match s.openLoad i with
  | none => s
  | some k => s.updSlot k fun o => { o with state := .empty }

/-- The control test of an OVERLAY BEGIN on slot `k` (R126): own open load abandoned, own OPEN page that pins the slot closed,
then the pin test. The second component is the wait the grant ends in. -/
def State.beginTest (s : State) (i : StreamNo) (k : Fin 8) : State × Option Wait :=
  let one := (s.abandonLoad i).countIf (s.openLoad i).isSome i .overlaySequence
  let two :=
    match one.openPage i with
    | some p => if p.overlay = some k then one.closePage i else one
    | none => one
  if 0 < two.pinCount k then (two, some (.pin k)) else (two, none)

/-- A BEGIN that has passed the pin test takes slot `k` (R127). -/
def State.beginLoad (s : State) (i : StreamNo) (k : Fin 8) (declared : Nat) : State :=
  let lost :=
    match (s.slot k).state with
    | .loading j => if j = i then s else s.countCond j .overlaySequence
    | _ => s
  lost.updSlot k fun _ => { state := .loading i, entries := [], declared := declared }

/-- OVERLAY ENTRIES taken (R129). -/
def State.addEntries (s : State) (i : StreamNo) (entries : List OverlayEntry) : State :=
  match s.openLoad i with
  | none => s.countCond i .overlaySequence
  | some k =>
    if 0 < s.pinCount k then s.countCond i .overlaySequence
    else
      let room := (s.slot k).declared - (s.slot k).entries.length
      (s.updSlot k fun o => { o with entries := o.entries ++ entries.take room }).countIf
        (decide (room < entries.length)) i .overlaySequence

/-- The slot of an open load becomes READY with its list as it stands (R130), OVERLAY INCOMPLETE counted where it is short. -/
def State.readySlot (s : State) (i : StreamNo) (k : Fin 8) : State :=
  (s.updSlot k fun o => { o with state := .ready }).countIf
    (decide ((s.slot k).entries.length < (s.slot k).declared)) i .overlayIncomplete

/-- OVERLAY END taken (R130). -/
def State.endLoad (s : State) (i : StreamNo) : State :=
  match s.openLoad i with
  | none => s.countCond i .overlaySequence
  | some k => s.readySlot i k

/-- A PRINT, MARK or CLOSE record completes the stream's open load first (R131). -/
def State.completeLoad (s : State) (i : StreamNo) : State :=
  match s.openLoad i with
  | none => s
  | some k => s.readySlot i k

end Sys2Proof.Machine
end

