-- ==== Sys2Proof/Machine/RunControl.lean ====
section
/-! DEFINITION. Run Control (spec/11_run_states_and_the_operator_panel.md): stop requests, starting, the engine's causes,
the panel keys and the lamps. -/

namespace Sys2Proof.Machine

/-- Both conditions of R186: no sheet is outstanding and no composer taking is under way. -/
def State.atRest (s : State) : Bool := decide (s.outstanding = 0) && s.taking.isNone

/-- The run state becomes STOPPED and the run-state cause joins both ports' sets (R179, R186). -/
def State.enterStopped (s : State) : State := { s with run := .stopped }.joinBoth .run

/-- R186: STOPPING ends in STOPPED at a moment at which both conditions hold; the cause is kept. -/
def State.testStopped (s : State) : State :=
  if s.run = .stopping ∧ s.atRest then s.enterStopped else s

/-- A stop request (R185). -/
def State.stopRequest (s : State) (c : Cause) : State :=
  match s.run with
  | .run => { s with run := .stopping, cause := c }.testStopped
  | .stopping => s
  | .stopped => s
  | .check => if s.atRest then { s with cause := c }.enterStopped else { s with run := .stopping, cause := c }

/-- START and RESUME (R187). -/
def State.start (s : State) : State :=
  match s.run with
  | .run => s
  | .stopping => { s with run := .run }
  | .stopped => { s with run := .run }
  | .check => if s.cause = .jam then { s with run := .run } else s

/-- An engine cause (R164): RUN and STOPPING change into CHECK, which raises the run-state cause on both ports; within CHECK
a cause of JAM is kept and any other is replaced; STOPPED does not change. -/
def State.engineCause (s : State) (c : Cause) : State :=
  match s.run with
  | .run => { s with run := .check, cause := c }.joinBoth .run
  | .stopping => { s with run := .check, cause := c }.joinBoth .run
  | .check => if s.cause = .jam then s else { s with cause := c }
  | .stopped => s

/-! ### Panel keys (R188, R189) -/

/-- A key at a sample (R188): its state changes when two consecutive samples agree against it. -/
def Key.sample (k : Key) (raw : Bool) : Key where
  pressed := if k.raw = raw then raw else k.pressed
  raw := raw

/-- The key presses at the sample: its state becomes PRESSED there. -/
def Key.presses (k : Key) (raw : Bool) : Bool := !k.pressed && (k.sample raw).pressed

/-- The key is held at the sample: PRESSED from earlier samples and PRESSED still (log entry 7). -/
def Key.held (k : Key) (raw : Bool) : Bool := k.pressed && (k.sample raw).pressed

/-- All three keys at a sample. -/
def Keys.sample (k : Keys) (r : KeySample) : Keys where
  start := k.start.sample r.start
  stop := k.stop.sample r.stop
  reset := k.reset.sample r.reset

/-- The commands a panel sample can give (R189). -/
inductive PanelCommand where
  | start | stop | purge | none
  deriving DecidableEq, Repr

/-- The table of R189: the keys pressing at the sample against the keys held. -/
def panelTable (pressStart pressStop pressReset heldStart heldStop heldReset : Bool) : PanelCommand :=
  match pressStart, pressStop, pressReset with
  | true, false, false => if heldReset then .purge else if heldStop then .none else .start
  | false, true, false => if heldStart || heldReset then .none else .stop
  | true, true, false => if heldReset then .none else .stop
  | true, false, true => .purge
  | false, true, true => .none
  | true, true, true => .none
  | false, false, true => .none
  | false, false, false => .none

/-- The command a sample of the keys gives (R189). -/
def Keys.command (k : Keys) (r : KeySample) : PanelCommand :=
  panelTable (k.start.presses r.start) (k.stop.presses r.stop) (k.reset.presses r.reset)
    (k.start.held r.start) (k.stop.held r.stop) (k.reset.held r.reset)

/-- A panel sample at which the keys give command `c`, with the command's effect. The command is the event of one row of
the table: a sample that gives another command is another row's, and nothing happens (log entry 8). -/
def State.panelSample (s : State) (r : KeySample) (c : PanelCommand) (effect : State → State) : State :=
  if s.keys.command r = c then effect { s with keys := s.keys.sample r } else s

/-! ### Lamps and lines (R170, R179, R191) -/

/-- The READY lamp: "The run state is RUN". -/
def State.lampReady (s : State) : Bool := decide (s.run = .run)

/-- The CHECK lamp: "The run state is CHECK". -/
def State.lampCheck (s : State) : Bool := decide (s.run = .check)

/-- The ATTENTION A or B lamp. -/
def State.lampAttention (s : State) (p : Port) : Bool := s.attention p

/-- The port's BUSY line: high in ANSWERING alone (R170). -/
def State.busy (s : State) (p : Port) : Bool := decide ((s.port p).reception = .answering)

end Sys2Proof.Machine
end

