-- ==== Sys2Proof/Machine/Tables.lean ====
section
/-! DEFINITION. The Translate Store and the cell merge (spec/03_character_translation_and_overstrike_pairs.md and section 4.3
of spec/04_strike_assembly_and_line_composition.md). -/

namespace Sys2Proof.Machine

/-! ### Lookups (R45, R47) -/

/-- The translate entry at a byte's index (R45). -/
def TableSet.lookup (t : TableSet) (b : Byte) : XlateEntry := t.xlate.get ⟨b.toNat, b.isLt⟩

/-- The composite of a (glyph, mark) key, where the pair table holds it (R47). -/
def pairLookup (pairs : List PairEntry) (g : Glyph) (m : MarkNo) : Option Glyph :=
  (pairs.find? fun e => decide (e.glyph = g ∧ e.mark = m)).map PairEntry.composite

/-! ### Loads (R51, R53, R54) -/

/-- The k entries of an XLATE LOAD replace the entries from the first code on (R51). -/
def xlateReplace (x : Bank XlateEntry 256) : Nat → List XlateEntry → Bank XlateEntry 256
  | _, [] => x
  | code, e :: es =>
    if h : code < 256 then xlateReplace (x.set ⟨code, h⟩ e) (code + 1) es else x

/-- Key order (R46): ascending glyph number, and for equal glyph numbers ascending mark number. -/
def PairEntry.keyBefore (a b : PairEntry) : Bool :=
  decide (a.glyph < b.glyph ∨ (a.glyph = b.glyph ∧ a.mark < b.mark))

/-- An entry is inserted at its place in key order, or replaces the composite of the entry with its key (R53). -/
def pairInsert (e : PairEntry) : List PairEntry → List PairEntry
  | [] => [e]
  | p :: ps =>
    if e.keyBefore p then e :: p :: ps
    else if p.keyBefore e then p :: pairInsert e ps
    else e :: ps

/-- One entry of a PAIR LOAD (R53): the table, and whether the entry was dropped by a full table. -/
def pairLoadOne (pairs : List PairEntry) (e : PairEntry) : List PairEntry × Bool :=
  if (pairLookup pairs e.glyph e.mark).isSome ∨ pairs.length < Config.pairEntries then (pairInsert e pairs, false)
  else (pairs, true)

/-- The entries of a PAIR LOAD applied one after another (R53); the second component is whether one was dropped. -/
def pairLoadAll (pairs : List PairEntry) : List PairEntry → List PairEntry × Bool
  | [] => (pairs, false)
  | e :: es =>
    let one := pairLoadOne pairs e
    let rest := pairLoadAll one.1 es
    (rest.1, one.2 || rest.2)

/-! ### Cells (R65, R68, R69) -/

/-- An empty cell (R65). Its weight is without meaning while the base is absent; the model holds 1 (log entry 9). -/
def Cell.empty : Cell where
  base := none
  baseMark := none
  overGlyph := none
  weight := 1
  underline := false

/-- "A cell is empty when its base and over are absent and its underline is no" (R65). -/
def Cell.isEmpty (c : Cell) : Bool := c.base.isNone && c.overGlyph.isNone && !c.underline

/-- What a merge does to one cell and to the record's two conditions. -/
structure Merged where
  cell : Cell
  void : Bool
  collision : Bool
  deriving DecidableEq, Repr

/-- Rule 4 of R69: the composite of the base and the incoming mark number. -/
def Cell.rule4 (c : Cell) (pairs : List PairEntry) (m : Option MarkNo) : Option Glyph :=
  match c.base, m with
  | some b, some k => pairLookup pairs b k
  | _, _ => none

/-- Rule 5 of R69: the composite of the incoming glyph and the base mark. -/
def Cell.rule5 (c : Cell) (pairs : List PairEntry) (g : Glyph) : Option Glyph :=
  match c.baseMark with
  | some k => pairLookup pairs g k
  | none => none

/-- The glyph merge (R69): the first of its rules 1 to 7 that applies. -/
def Cell.mergeGlyph (c : Cell) (pairs : List PairEntry) (g : Glyph) (m : Option MarkNo) : Merged :=
  match c.base with
  | none => ⟨{ c with base := some g, baseMark := m, weight := 1 }, false, false⟩
  | some b =>
    if b = g then ⟨{ c with weight := min 3 (c.weight + 1) }, false, false⟩
    else if c.overGlyph = some g then ⟨c, false, false⟩
    else
      match c.rule4 pairs m with
      | some composite => ⟨{ c with base := some composite, baseMark := none }, false, false⟩
      | none =>
        match c.rule5 pairs g with
        | some composite => ⟨{ c with base := some composite, baseMark := none }, false, false⟩
        | none =>
          if c.overGlyph = none then ⟨{ c with overGlyph := some g }, false, false⟩
          else ⟨c, false, true⟩

/-- A translate entry merged into a cell (R68). -/
def Cell.merge (c : Cell) (pairs : List PairEntry) : XlateEntry → Merged
  | .space => ⟨c, false, false⟩
  | .underscore => ⟨{ c with underline := true }, false, false⟩
  | .void => ⟨c, true, false⟩
  | .glyph g m => c.mergeGlyph pairs g m

/-- A record's bytes merged into a buffer's cells (R66 step 2), with whether a VOID byte stood among them (R45) and whether
rule 7 dropped a glyph (R70). -/
structure Strike where
  cells : Bank Cell 160
  void : Bool
  collision : Bool
  deriving DecidableEq, Repr

/-- Data byte i merges into cell i, in ascending order (R66); `place` is the bank place, position less 1. A record's kept
data reaches no position above its width (R9), so none above 160. -/
def strikeFrom (t : TableSet) (place : Nat) (cells : Bank Cell 160) : List Byte → Strike
  | [] => ⟨cells, false, false⟩
  | b :: bs =>
    if h : place < 160 then
      let m := (cells.get ⟨place, h⟩).merge t.pairs (t.lookup b)
      let rest := strikeFrom t (place + 1) (cells.set ⟨place, h⟩ m.cell) bs
      ⟨rest.cells, m.void || rest.void, m.collision || rest.collision⟩
    else ⟨cells, false, false⟩

end Sys2Proof.Machine
end

