-- ==== Sys2Proof/Machine/Composer.lean ====
section
/-! DEFINITION. The Line Composer (spec/04_strike_assembly_and_line_composition.md): eligibility and grants, the steps of a
taking, emission, the table fence, the flags, and what a cancellation does. -/

namespace Sys2Proof.Machine

/-! ### Assembly buffers (R64, R66, R71) -/

/-- A line's cells: from position 1 to the highest non-empty position, without base marks (R71). -/
def lineCells (cells : Bank Cell 160) : List LineCell :=
  ((cells.items.reverse.dropWhile Cell.isEmpty).reverse).map fun c =>
    { base := c.base, overGlyph := c.overGlyph, weight := c.weight, underline := c.underline }

/-- The highest non-empty position (R64); 0 when every cell is empty. -/
def Assembly.highest (b : Assembly) : Nat := (lineCells b.cells).length

/-- The composed line a buffer gives (R71), or none where no cell is non-empty (R72). -/
def Assembly.composed (b : Assembly) : Option ComposedLine :=
  if b.highest = 0 then none
  else some { sequence := b.sequence, line := b.line, length := b.length, pitch := b.pitch, width := b.width,
              cells := lineCells b.cells }

/-- The buffer a PRINT record opens (R64, R66 step 1). -/
def Resolved.opens (r : Resolved) (set : Fin 2) : Assembly where
  sequence := r.sequence
  line := r.line
  tableSet := set
  length := r.length
  pitch := r.pitch
  width := r.width
  cells := .replicate 160 .empty

/-- The buffer a PRINT record merges into: the OPEN one, or the one it opens with the stream's current table set (R66). -/
def Stream.bufferFor (t : Stream) (r : Resolved) : Assembly :=
  match t.buffer with
  | some b => b
  | none => r.opens t.attributes.tableSet

/-- A PRINT record's strike on its stream's buffer (R66 step 2), by the tables of the buffer's own set (R67). -/
def State.strike (s : State) (i : StreamNo) (r : Resolved) (data : List Byte) : Strike :=
  let b := (s.stream i).bufferFor r
  strikeFrom (s.tables.get b.tableSet) 0 b.cells data

/-- The buffer after the strike. -/
def State.struck (s : State) (i : StreamNo) (r : Resolved) (data : List Byte) : Assembly :=
  { (s.stream i).bufferFor r with cells := (s.strike i r data).cells }

/-! ### The table fence (R80 to R82) -/

/-- The stream has an OPEN buffer on table set `k`. -/
def Stream.assembles (t : Stream) (k : Fin 2) : Bool :=
  match t.buffer with
  | some b => decide (b.tableSet = k)
  | none => false

/-- The fence test of stream `i` on set `k` (R80): no other stream has an OPEN buffer on it. -/
def State.fenceClear (s : State) (i : StreamNo) (k : Fin 2) : Bool :=
  allStreams.all fun j => decide (j = i) || !(s.stream j).assembles k

/-- A buffer on set `k` was emitted or discarded: each FENCE wait on `k` whose test would now pass ends, its claim kept (R82). -/
def State.reexamineFence (s : State) (k : Fin 2) : State :=
  { s with streams := s.streams.mapIdx fun i t =>
      if t.wait = .fence k ∧ s.fenceClear i k then { t with wait := .none } else t }

/-- The fence test as a control test of the taking (R80): a failure sets the stream's claim and ends the grant in FENCE. -/
def State.fenceTest (s : State) (i : StreamNo) (k : Fin 2) : State × Option Wait :=
  if s.fenceClear i k then (s, none)
  else (s.updStream i fun t => { t with fenceClaim := some k }, some (.fence k))

/-- A load applied to a table set; the stream's claim ends (R81). -/
def State.loadTable (s : State) (i : StreamNo) (k : Fin 2) (f : TableSet → TableSet) : State :=
  { s with tables := s.tables.modify k f }.updStream i fun t => { t with fenceClaim := none }

/-! ### Emission (R71, R72) -/

/-- A stream's buffer is emitted: a non-empty one as a composed line handed to the Page Store (R71), an empty one as none
(R72). The buffer becomes EMPTY and the fence on its set is examined again (R82). -/
def State.emit (s : State) (i : StreamNo) : State :=
  match (s.stream i).buffer with
  | none => s
  | some b =>
    let handed :=
      match b.composed with
      | some ln => (s.receiveLine i ln).updStream i fun t => { t with linesComposed := t.linesComposed + 1 }
      | none => s
    (handed.updStream i fun t => { t with buffer := none }).reexamineFence b.tableSet

/-- The line an emission of the stream's buffer hands to the Page Store, if any. -/
def State.bufferLine (s : State) (i : StreamNo) : List ComposedLine :=
  match (s.stream i).buffer with
  | some b => b.composed.toList
  | none => []

/-! ### Grants (R59 to R61) -/

/-- Another stream holds a fence claim on set `k` (R60, R81). -/
def State.claimedByOther (s : State) (i : StreamNo) (k : Fin 2) : Bool :=
  allStreams.any fun j => decide (j ≠ i ∧ (s.stream j).fenceClaim = some k)

/-- A record that is a PRINT record. -/
def Resolved.isPrint (r : Resolved) : Bool :=
  match r.body with
  | .print _ => true
  | _ => false

/-- A head record is barred by a fence claim (R60): a PRINT record that would open a buffer on a set another stream claims. -/
def State.barred (s : State) (i : StreamNo) (r : Resolved) : Bool :=
  r.isPrint && (s.stream i).buffer.isNone && s.claimedByOther i (s.stream i).attributes.tableSet

/-- A stream is eligible for a grant (R60). -/
def State.eligible (s : State) (i : StreamNo) : Bool :=
  let t := s.stream i
  match t.queue with
  | [] => false
  | r :: _ => decide (t.binding ≠ none ∧ t.wait = .none) && !s.barred i r

/-- A stream's effective priority number (R61): its composer priority, less 4 while its page-age timer is EXPIRED. -/
def Stream.effectivePriority (t : Stream) : Int :=
  if t.pageAge = .expired then (t.composerPriority.val : Int) - 4 else t.composerPriority.val

/-- The stream the composer grants (R59, R61), in RUN and CHECK. -/
def State.chosen (s : State) : Option StreamNo :=
  if s.run = .run ∨ s.run = .check then
    roundRobin s.composerPointer s.eligible (fun i => (s.stream i).effectivePriority)
  else none

/-- The granted stream with the head record of its queue (R59): that of the taking under way, in every run state, and with none
under way the stream the composer grants now. -/
def State.grant (s : State) : Option (StreamNo × Resolved) :=
  let stream :=
    match s.taking with
    | none => s.chosen
    | some (.granted i) => some i
    | some (.discarded _) => none
  stream.bind fun i => (s.stream i).queue.head?.map fun r => (i, r)

/-! ### Flags (R75, R76) -/

/-- The SYNC flag (R75): the buffer is emitted where OPEN, then the Page Store acts. -/
def State.actSync (s : State) (i : StreamNo) (sync : Bool) : State :=
  if sync then (s.emit i).syncPages i else s

/-- The HALT flag (R76), handed over once the taking is finished (R185). -/
def State.actHalt (s : State) (halt : Bool) : State :=
  if halt then s.stopRequest .halt else s

/-! ### The steps of a taking (R63) -/

/-- The effects of a grant begin: it serves the stream for the round robin (R59, R61), and the taking is under way. -/
def State.beginGrant (s : State) (i : StreamNo) : State := { s with composerPointer := i, taking := some (.granted i) }

/-- A taking or a waited grant is over; Run Control tests STOPPING at its completion (R186). -/
def State.endGrant (s : State) : State := { s with taking := none }.testStopped

/-- The grant ends in a wait (R59): the record keeps its place and its slot. -/
def State.endWaiting (s : State) (i : StreamNo) (w : Wait) : State := (s.setWait i w).endGrant

/-- The record leaves the head of its queue and frees its slot (R22, R63 step 6). -/
def State.dropHead (s : State) (i : StreamNo) : State := s.updStream i fun t => { t with queue := t.queue.tail }

/-- Steps 6 and 7 of R63: taken, then SYNC, then HALT after the taking is finished. -/
def State.finishTaking (s : State) (i : StreamNo) (r : Resolved) : State :=
  let synced := (s.dropHead i).actSync i r.sync
  (({ synced with taking := none }).actHalt r.halt).testStopped

/-- What a kind of record puts into the steps of R63. -/
structure Taking where
  /-- the lines put to the space test (step 1) -/
  lines : List ComposedLine
  /-- emission before (step 2) -/
  before : State → State
  /-- the control tests (step 3): the state, and the wait the grant ends in where one fails -/
  tests : State → State × Option Wait
  /-- the action, with the emission after it (steps 4 and 5) -/
  act : State → State

/-- The steps of R63 for the granted head record `r` of stream `i`. -/
def State.carryOut (s : State) (i : StreamNo) (r : Resolved) (k : Taking) : State :=
  let granted := s.beginGrant i
  if granted.spaceTest i k.lines then
    let tested := k.tests (k.before granted)
    match tested.2 with
    | some w => tested.1.endWaiting i w
    | none => (k.act tested.1).finishTaking i r
  else granted.endWaiting i .store

/-- The composer makes a grant, where it has one to make: its taking is under way, and nothing else has changed yet (R59). This is what
the block does by itself while no command waits (log entry 12). -/
def State.makeGrant (s : State) : State :=
  match s.taking, s.grant with
  | none, some (i, _) => { s with taking := some (.granted i) }
  | _, _ => s

/-- A composer command: the effects of the granted record's taking stand together (R59, R63), where the record is of the command's
kind. The taking is the one under way; with none under way the grant is this step's too (log entry 14). A taking whose record was
discarded completes with no effect (R19), and Run Control makes its test (R186). A record of another kind is another row's, and with
no grant nothing happens (log entry 8). -/
def State.take {α : Type} (s : State) (pick : Body → Option α) (kind : State → StreamNo → Resolved → α → Taking) : State :=
  match s.grant with
  | some (i, r) =>
    match pick r.body with
    | none => s
    | some a => s.carryOut i r (kind s i r a)
  | none =>
    match s.taking with
    | some (.discarded body) => if (pick body).isSome then s.endGrant else s
    | _ => s

/-- No control test: the taking goes on. -/
def noTest (s : State) : State × Option Wait := (s, none)

/-- The taking of a queued control (R77, R78): the buffer is emitted first, then the control's test and its action. -/
def controlTaking (s : State) (i : StreamNo) (tests : State → State × Option Wait) (act : State → State) : Taking where
  lines := s.bufferLine i
  before := fun u => u.emit i
  tests := tests
  act := act

/-- The taking of a PRINT record (R66): the strike, VOID CODE and COLLISION once each (R45, R70), and with "advance" the
emission; an open load completes first (R131). -/
def printTaking (s : State) (i : StreamNo) (r : Resolved) (data : List Byte) : Taking where
  lines := if r.advance || r.sync then (s.struck i r data).composed.toList else []
  before := id
  tests := noTest
  act := fun u =>
    let done := u.completeLoad i
    let k := done.strike i r data
    let merged := done.updStream i fun t => { t with buffer := some (done.struck i r data) }
    let counted := (merged.countIf k.void i .voidCode).countIf k.collision i .collision
    if r.advance then counted.emit i else counted

/-- The taking of a MARK record (R73): the buffer is not emitted, unless SYNC emits it at the end (R75). -/
def markTaking (s : State) (i : StreamNo) (r : Resolved) (id : Word16) : Taking where
  lines := if r.sync then s.bufferLine i else []
  before := fun u => u
  tests := noTest
  act := fun u => (u.completeLoad i).attachMark i id

/-- The taking of a CLOSE record (R74): the buffer is emitted, then the open page closes. -/
def closeTaking (s : State) (i : StreamNo) : Taking where
  lines := s.bufferLine i
  before := fun u => u.emit i
  tests := noTest
  act := fun u => (u.completeLoad i).closePage i

/-! ### Cancellation (R19, R84) -/

/-- A cancellation before the taking under way: "the record is discarded with the queue and has no effect" (R19, R190). The run
state is not touched (R184): R186 is tested when that taking completes. -/
def State.discardTaking (s : State) (i : StreamNo) : State :=
  if s.taking = some (.granted i) then
    match (s.stream i).queue with
    | r :: _ => { s with taking := some (.discarded r.body) }
    | [] => s
  else s

/-- CANCEL's effects on a stream (R19): the record being taken, queue, assembly buffer, timer, claim, wait and carriage; its overlay load (R134); its
pages (R103); and the fence of its discarded buffer's set examined again (R82, R84). -/
def State.cancelStream (s : State) (i : StreamNo) : State :=
  let t := s.stream i
  let cleared := (s.discardTaking i).updStream i fun u =>
    { u with queue := [], buffer := none, pageAge := .stopped, fenceClaim := none, wait := .none, carriage := .initial,
             lastLined := none }
  let discarded := (cleared.abandonLoad i).cancelPages i
  match t.buffer with
  | some b => discarded.reexamineFence b.tableSet
  | none => discarded

end Sys2Proof.Machine
end

