-- ==== Sys2Proof/Machine/ComposerCommands.lean ====
section
/-! DEFINITION. The composer's takings, one command for each kind of head record (R59, R63), and the expiry of a page-age timer (R62). -/

namespace Sys2Proof.Machine

/-- TAKE_PRINT (R66). -/
def execTakePrint (s : State) : Result :=
  .next (s.take (fun | .print data => some data | _ => none) printTaking)

/-- TAKE_MARK (R73). -/
def execTakeMark (s : State) : Result :=
  .next (s.take (fun | .mark id => some id | _ => none) markTaking)

/-- TAKE_CLOSE (R74). -/
def execTakeClose (s : State) : Result :=
  .next (s.take (fun | .close => some () | _ => none) fun u i _ _ => closeTaking u i)

/-- TAKE_XLATE_LOAD (R51, R80). -/
def execTakeXlateLoad (s : State) : Result :=
  .next (s.take (fun | .xlateLoad k first entries => some (k, first, entries) | _ => none) fun u i _ load =>
    controlTaking u i (fun v => v.fenceTest i load.1)
      fun v => v.loadTable i load.1 fun t => { t with xlate := xlateReplace t.xlate load.2.1 load.2.2 })

/-- A PAIR LOAD applied (R53): the entries in order, and TABLE FULL once where one was dropped. -/
def State.applyPairs (s : State) (i : StreamNo) (k : Fin 2) (entries : List PairEntry) : State :=
  let loaded := pairLoadAll (s.tables.get k).pairs entries
  (s.loadTable i k fun t => { t with pairs := loaded.1 }).countIf loaded.2 i .tableFull

/-- TAKE_PAIR_LOAD (R53, R80). -/
def execTakePairLoad (s : State) : Result :=
  .next (s.take (fun | .pairLoad k entries => some (k, entries) | _ => none) fun u i _ load =>
    controlTaking u i (fun v => v.fenceTest i load.1) fun v => v.applyPairs i load.1 load.2)

/-- TAKE_PAIR_CLEAR (R54, R80). -/
def execTakePairClear (s : State) : Result :=
  .next (s.take (fun | .pairClear k => some k | _ => none) fun u i _ k =>
    controlTaking u i (fun v => v.fenceTest i k) fun v => v.loadTable i k fun t => { t with pairs := [] })

/-- TAKE_GEOMETRY_LOAD (R110): it meets no fence. -/
def execTakeGeometryLoad (s : State) : Result :=
  .next (s.take (fun | .geometryLoad k g => some (k, g) | _ => none) fun u i _ load =>
    controlTaking u i noTest fun v => { v with geometry := v.geometry.set load.1 load.2 })

/-- TAKE_STREAM_SET (R79). -/
def execTakeStreamSet (s : State) : Result :=
  .next (s.take (fun | .streamSet a => some a | _ => none) fun u i _ a =>
    controlTaking u i noTest fun v => v.updStream i fun t => { t with attributes := a })

/-- TAKE_OVERLAY_BEGIN (R126, R127). -/
def execTakeOverlayBegin (s : State) : Result :=
  .next (s.take (fun | .overlayBegin k declared => some (k, declared) | _ => none) fun u i _ load =>
    controlTaking u i (fun v => v.beginTest i load.1) fun v => v.beginLoad i load.1 load.2)

/-- TAKE_OVERLAY_ENTRIES (R129). -/
def execTakeOverlayEntries (s : State) : Result :=
  .next (s.take (fun | .overlayEntries entries => some entries | _ => none) fun u i _ entries =>
    controlTaking u i noTest fun v => v.addEntries i entries)

/-- TAKE_OVERLAY_END (R130). -/
def execTakeOverlayEnd (s : State) : Result :=
  .next (s.take (fun | .overlayEnd => some () | _ => none) fun u i _ _ => controlTaking u i noTest fun v => v.endLoad i)

/-- A page-age timer runs out (R62); a timer that is not RUNNING does not. -/
def AgeTimer.expire : AgeTimer → AgeTimer
  | .running _ => .expired
  | t => t

/-- PAGE_AGE_EXPIRY (R62). -/
def execPageAgeExpiry (i : StreamNo) (s : State) : Result :=
  .next (s.updStream i fun t => { t with pageAge := t.pageAge.expire })

end Sys2Proof.Machine
end

