-- ==== Sys2Proof/Machine/Imager.lean ====
section
/-! DEFINITION. The Sheet Imager (spec/08_sheet_imaging.md): the imaging arbiter, rendering, the offer order, the output raster
format and what a jam does to the buffers. -/

namespace Sys2Proof.Machine

/-- The buffers X and Y. -/
def allBuffers : List (Fin 2) := [0, 1]

def State.buffer (s : State) (b : Fin 2) : Raster := s.buffers.get b

def State.setBuffer (s : State) (b : Fin 2) (r : Raster) : State := { s with buffers := s.buffers.set b r }

/-- The sheet size the engine settings give for a tray (R140 step 3, R151). -/
def EngineSettings.sheet (e : EngineSettings) : Tray → SheetSize
  | .one => e.tray1
  | .two => e.tray2

/-! ### Selection (R137 to R140) -/

/-- The renderer is idle: no buffer is RENDERING (R137). -/
def State.rendererIdle (s : State) : Bool := allBuffers.all fun b => decide ((s.buffer b).state ≠ .rendering)

/-- The buffer a selection goes to: X where it is FREE, or else Y where that is (R137). -/
def State.freeBuffer (s : State) : Option (Fin 2) := allBuffers.find? fun b => decide ((s.buffer b).state = .free)

/-- A stream's candidate page (R139): its earliest CLOSED page in page order. -/
def State.candidate (s : State) (i : StreamNo) : Option Page :=
  s.pages.find? fun p => decide (p.stream = i ∧ p.state = .closed)

/-- A selection's one step for a page and a FREE buffer (R140). -/
def State.beginRendering (s : State) (b : Fin 2) (p : Page) : State :=
  let size := s.settings.sheet p.tray
  let ready :=
    match p.overlay with
    | some k => decide ((s.slot k).state = .ready)
    | none => false
  { (s.updPage p.ref fun q => { q with state := .imaging }).setBuffer b
      { state := .rendering, page := some p.ref, width := size.width, height := size.height, overlayReady := ready, dots := [] }
    with offer := s.offer ++ [b] }

/-- The page the arbiter selects, with the state as the choice leaves it: the recovery list's head, removed from the list
(R138), or else by imaging priority and round robin, which moves the pointer (R139). -/
def State.choosePage (s : State) : Option (Page × State) :=
  match s.recovery with
  | r :: rest => (s.findPage r).map fun p => (p, { s with recovery := rest })
  | [] =>
    match roundRobin s.imagerPointer (fun i => (s.candidate i).isSome) (fun i => (s.stream i).imagingPriority.val) with
    | some i => (s.candidate i).map fun p => (p, { s with imagerPointer := i })
    | none => none

/-- A selection (R137 to R140); where one of its conditions fails the arbiter makes none. -/
def State.select (s : State) : State :=
  if s.rendererIdle ∧ s.run ≠ .stopped then
    match s.freeBuffer, s.choosePage with
    | some b, some (p, chosen) => chosen.beginRendering b p
    | _, _ => s
  else s

/-! ### Rendering (R141, R142, R120) -/

/-- The overlay entries a rendering draws: the slot's list where it was READY when the rendering began (R133, R141). -/
def State.drawnOverlay (s : State) (r : Raster) (p : Page) : List OverlayEntry :=
  match p.overlay with
  | some k => if r.overlayReady then (s.slot k).entries else []
  | none => []

/-- A rendering completes in buffer `b` with page `p` (R142): the raster stands, CLIPPED is set and counted once (R120), and
the buffer becomes READY. -/
def State.completeRendering (s : State) (b : Fin 2) (p : Page) : State :=
  let r := s.buffer b
  let clips := pageClipped p r.width r.height
  let marked := if clips then s.updPage p.ref fun q => { q with clipped := true } else s
  (marked.countIf (clips && !p.clipped) p.stream .clipped).setBuffer b
    { r with state := .ready, dots := renderDots (s.drawnOverlay r p) p r.width r.height }

/-- The buffer a rendering is under way in. -/
def State.renderingBuffer (s : State) : Option (Fin 2) :=
  allBuffers.find? fun b => decide ((s.buffer b).state = .rendering)

/-- The page a buffer holds, in the store (where it is not, nothing is done with it: log entry 27). -/
def State.bufferPage (s : State) (b : Fin 2) : Option Page := (s.buffer b).page.bind s.findPage

/-- The completion of the rendering under way, if any. -/
def State.renderingDone (s : State) : State :=
  match s.renderingBuffer with
  | none => s
  | some b =>
    match s.bufferPage b with
    | none => s
    | some p => s.completeRendering b p

/-- A buffer becomes FREE with page none and leaves the offer order (R136, R143). -/
def State.releaseBuffer (s : State) (b : Fin 2) : State :=
  { s.setBuffer b .free with offer := s.offer.filter fun c => !decide (c = b) }

/-! ### The output raster format (R145) -/

/-- The bit a dot is sent as (R145). -/
def Polarity.bit : Polarity → Bool → Bool
  | .blackAsOne, black => black
  | .blackAsZero, black => !black

/-- Eight bits as a byte, the first of them most significant. -/
def byteOfBits (bits : List Bool) : Byte := BitVec.ofNat 8 (bits.foldl (fun n b => 2 * n + b.toNat) 0)

/-- Eight consecutive dots of a row, left to right, as the byte that carries them (R145). -/
def packByte (e : EngineSettings) (dots : List Bool) : Byte :=
  let bits := dots.map e.polarity.bit
  match e.bitOrder with
  | .leftmostInMsb => byteOfBits bits
  | .leftmostInLsb => byteOfBits bits.reverse

/-- A row's dots as bytes of 8 consecutive dots. -/
def packDots (e : EngineSettings) : List Bool → List Byte
  | a :: b :: c :: d :: f :: g :: h :: i :: rest => packByte e [a, b, c, d, f, g, h, i] :: packDots e rest
  | _ => []

/-- A row padded with white dots "up to the next multiple of 32 dots" (R145). -/
def padRow (row : List Bool) : List Bool := row ++ List.replicate ((32 - row.length % 32) % 32) false

/-- The rows of a copy as sent, by the bit order and polarity in force (R145). -/
def sendRows (e : EngineSettings) (dots : List (List Bool)) : List (List Byte) := dots.map fun row => packDots e (padRow row)

/-! ### Jams (R146) -/

/-- The buffer is freed by steps 1 and 2 of R146: it is SENDING, or READY with a page that has just been put on the list. -/
def Raster.freedByJam (r : Raster) (lost : List PageRef) : Bool :=
  match r.state with
  | .sending => true
  | .ready => match r.page with
    | some p => decide (p ∈ lost)
    | none => false
  | _ => false

/-- The buffer is withdrawn by step 3 of R146: RENDERING or READY with an IMAGING page whose stream has a page on the list. -/
def State.withdrawnByJam (s : State) (b : Fin 2) (lost : List PageRef) : Bool :=
  let r := s.buffer b
  !r.freedByJam lost && (decide (r.state = .rendering) || decide (r.state = .ready)) &&
    match s.bufferPage b with
    | some p => decide (p.state = .imaging) && s.recovery.any fun q => decide (q.stream = p.stream)
    | none => false

/-- A page stands earlier in its stream's page order than a page of its stream on the recovery list (R146 step 3; log entry 24). -/
def State.earlierThanRecovered (s : State) (p : Page) : Bool :=
  (((s.pagesOf p.stream).dropWhile fun q => !decide (q.ref = p.ref)).drop 1).any fun q => decide (q.ref ∈ s.recovery)

/-- The withdrawn pages that are put back on the recovery list, in offer order (R146 step 3). -/
def State.putBack (s : State) (lost : List PageRef) : List PageRef :=
  s.offer.filterMap fun b =>
    match s.bufferPage b with
    | some p => if s.withdrawnByJam b lost ∧ s.earlierThanRecovered p then some p.ref else none
    | none => none

/-- The imager's part of a jam (R146), after the lost pages have been put at the head of the recovery list: `before` is the
list as it stood before that. Buffers are freed and withdrawn, a withdrawn page returns to CLOSED, and the pages put back stand
behind the lost pages and ahead of the rest. -/
def State.jamBuffers (s : State) (lost before : List PageRef) : State :=
  let gone := fun b => (s.buffer b).freedByJam lost || s.withdrawnByJam b lost
  let withdrawn := (allBuffers.filter fun b => s.withdrawnByJam b lost).filterMap fun b => (s.buffer b).page
  { s with
    buffers := s.buffers.mapIdx fun b r => if gone b then .free else r
    offer := s.offer.filter fun b => !gone b
    pages := s.pages.map fun p => if p.ref ∈ withdrawn then { p with state := .closed } else p
    recovery := lost ++ s.putBack lost ++ before }

end Sys2Proof.Machine
end

