-- ==== Sys2Proof/Machine/Frames.lean ====
section
/-! DEFINITION. The four sense frames, byte by byte (R183, section 10.8 of
spec/10_channel_ports_control_records_and_status_return.md). Unused bytes and bits are sent as 0. -/

namespace Sys2Proof.Machine

/-- A number as one byte. -/
def byte1 (n : Nat) : Byte := BitVec.ofNat 8 n

/-- A number as two bytes, the most significant first (R183). -/
def byte2 (n : Nat) : List Byte := [byte1 (n / 256), byte1 n]

/-- A number as four bytes, the most significant first. -/
def byte4 (n : Nat) : List Byte := [byte1 (n / 16777216), byte1 (n / 65536), byte1 (n / 256), byte1 n]

/-- Run states as byte 1 of the DEVICE frame codes them. -/
def RunState.code : RunState → Nat
  | .run => 0
  | .stopping => 1
  | .stopped => 2
  | .check => 3

/-- Causes as byte 1 of the DEVICE frame codes them. -/
def Cause.code : Cause → Nat
  | .panel => 0
  | .control => 1
  | .halt => 2
  | .jam => 3
  | .notReady => 4
  | .trayEmpty => 5
  | .stackerFull => 6
  | .engineRestart => 7
  | .purge => 8

/-- Bindings as the frames code them: 0 UNBOUND, 1 A, 2 B. -/
def bindingCode : Option Port → Nat
  | none => 0
  | some .a => 1
  | some .b => 2

/-- Wait reasons as the frames code them: 0 NONE, 1 FENCE, 2 PIN, 3 SYNC, 4 STORE. -/
def Wait.code : Wait → Nat
  | .none => 0
  | .fence _ => 1
  | .pin _ => 2
  | .sync => 3
  | .store => 4

/-- Stackers as the MARK frame codes them. -/
def Stacker.code : Stacker → Nat
  | .one => 1
  | .two => 2

/-- A set of numbered bits as a number: bit k is the k-th of the list. -/
def bitSet : List Bool → Nat
  | [] => 0
  | b :: bs => b.toNat + 2 * bitSet bs

/-- A stream's summary byte in the DEVICE frame: binding, wait reason, open page. -/
def State.summary (s : State) (i : StreamNo) : Byte :=
  let t := s.stream i
  byte1 (bindingCode t.binding * 64 + t.wait.code * 8 + (s.openPage i).isSome.toNat * 4)

/-- The page being rendered (R140), if any. -/
def State.renderedPage (s : State) : Option PageRef :=
  match s.renderingBuffer with
  | some b => (s.buffer b).page
  | none => none

/-- The DEVICE frame for a port (R183). -/
def State.deviceFrame (s : State) (p : Port) : List Byte :=
  let q := s.port p
  let rendered : Nat × Nat :=
    match s.renderedPage with
    | some r => (128 + r.stream.val, r.number)
    | none => (0, 0)
  [byte1 1, byte1 (s.run.code * 16 + s.cause.code), byte1 s.outstanding]
    ++ byte2 s.spoolFree ++ [byte1 s.freeRecords] ++ byte2 s.freeSlots
    ++ allStreams.map s.summary
    ++ [byte1 (bitSet q.deviceSet.items), byte1 rendered.1] ++ byte2 rendered.2
    ++ byte4 s.sheetsStacked.toNat
    ++ [byte1 (bitSet [q.causes.mark, q.causes.device, q.causes.run]), byte1 (bitSet q.causes.streams.items),
        byte1 (bitSet [decide (p = .b), q.hold])]
    ++ List.replicate 5 0

/-- The STREAM STATE frame for stream `i` (R183). -/
def State.streamFrame (s : State) (i : StreamNo) : List Byte :=
  let t := s.stream i
  let c := t.carriage
  let pend : Nat × Nat × Nat :=
    match c.pending with
    | some sel => (sel.form.val, 1, sel.width)
    | none => (0, 0, 0)
  [byte1 2, byte1 i.val,
   byte1 (pend.1 * 64 + c.form.val * 16 + pend.2.1 * 8 + c.started.toNat * 4 + bindingCode t.binding),
   byte1 c.width, byte1 pend.2.2, byte1 c.line]
    ++ byte2 c.sequence.toNat ++ byte2 t.queue.length ++ byte2 t.quota ++ byte2 t.pageCounter
    ++ [byte1 (s.pagesOf i).length, byte1 t.syncsCompleted.toNat]
    ++ byte2 t.recordsTaken.toNat ++ byte2 t.linesComposed.toNat ++ byte2 t.pagesStacked.toNat
    ++ byte2 t.marksDelivered.toNat ++ byte2 t.blankFormsCounter.toNat
    ++ [byte1 t.wait.code] ++ List.replicate 5 0

/-- The STREAM CONDITIONS frame for stream `i` (R183): the 21 counts in the kind order of R13. -/
def State.conditionsFrame (s : State) (i : StreamNo) : List Byte :=
  [byte1 3, byte1 i.val] ++ (s.stream i).counts.items.map byte1 ++ List.replicate 9 0

/-- The MARK frame for a port (R183): "An empty capture reads with byte 1 holding 0 and bytes 2 to 11 holding 0." -/
def PortState.markFrame (q : PortState) : List Byte :=
  match q.capture with
  | none => byte1 4 :: List.replicate 31 0
  | some c =>
    [byte1 4, byte1 (1 + q.renewed.toNat * 2), byte1 c.stream.val] ++ byte2 c.markId.toNat ++ byte2 c.page
      ++ [byte1 c.stacker.code] ++ byte4 c.total.toNat ++ List.replicate 20 0

end Sys2Proof.Machine
end

