-- ==== Sys2Proof/Machine/Operands.lean ====
section
/-! DEFINITION. What the gate reads from a record's bytes: the header (R1, R5 to R7, R183) and the operands of every control
(R8, R15, R16, R27, R41, R50, R52, R54, R109, R124, R125, R152, R175, R181). Each operand reader makes step 3 of R8 (the
length) before step 4 (the ranges). -/

namespace Sys2Proof.Machine

/-! ### The header (R1, R183) -/

/-- The record classes (R1). -/
inductive Class where
  | print | control | mark | close
  deriving DecidableEq, Repr

/-- The high and low four bits of a byte. -/
def hiNibble (b : Byte) : Nat := b.toNat / 16
def loNibble (b : Byte) : Nat := b.toNat % 16

/-- The class a header's first byte names (R183). -/
def classOf (b : Byte) : Option Class :=
  match hiNibble b with
  | 1 => some .print
  | 2 => some .control
  | 3 => some .mark
  | 4 => some .close
  | _ => none

/-- A record's header as checked, with its data bytes. -/
structure Header where
  stream : StreamNo
  cls : Class
  action : Action
  sync : Bool
  halt : Bool
  data : List Byte
  deriving DecidableEq, Repr

/-- The carriage action a PRINT record's second byte carries (R7); SKIP numbers run 1 to 7 (R1, log entry 11). -/
def actionOf (b : Byte) : Option Action :=
  match hiNibble b with
  | 0 => some .none
  | 1 => if 1 ≤ loNibble b ∧ loNibble b ≤ 3 then some (.space (loNibble b)) else none
  | 2 => if 1 ≤ loNibble b ∧ loNibble b ≤ 7 then some (.skip (loNibble b)) else none
  | _ => none

/-- The stream number a byte names, where it is one of 0 to 7. -/
def streamOf (n : Nat) : Option StreamNo := if h : n < 8 then some ⟨n, h⟩ else none

/-- A control record whose control code is STREAM OPEN (R6). -/
def isStreamOpen (c : Class) (data : List Byte) : Bool := decide (c = .control) && decide (data.head? = some 0x02#8)

/-- Step 3 of R4: the binding of the stream against the port (R6). -/
def bindingRefusal (s : State) (p : Port) (i : StreamNo) (c : Class) (data : List Byte) : Option Reason :=
  match (s.stream i).binding with
  | some q => if q = p then none else some .streamBusy
  | none => if isStreamOpen c data then none else some .streamNotOpen

/-- Step 4 of R4: the data length of a MARK or CLOSE record (R7). -/
def lengthRefusal (c : Class) (data : List Byte) : Option Reason :=
  match c with
  | .mark => if data.length = 2 then none else some .length
  | .close => if data.length = 0 then none else some .length
  | _ => none

/-- Step 5 of R4: the carriage action against the class (R7): any action on a PRINT record, NONE on the others. -/
def carriageFor (c : Class) (b : Byte) : Option Action :=
  match c with
  | .print => actionOf b
  | _ => if hiNibble b = 0 then some .none else none

/-- Steps 1 to 5 of R4 over the bytes a port kept, in their order: the first check that fails decides. -/
def checkHeader (s : State) (p : Port) (bytes : List Byte) (ranLong : Bool) : Except Reason Header :=
  match bytes with
  | b0 :: b1 :: b2 :: b3 :: data =>
    if data.length < b3.toNat then .error .shortRecord
    else if ranLong then .error .length
    else
      match streamOf (loNibble b0), classOf b0 with
      | some i, some c =>
        if b2.toNat % 64 ≠ 0 then .error .classInvalid
        else
          match bindingRefusal s p i c data with
          | some r => .error r
          | none =>
            match lengthRefusal c data with
            | some r => .error r
            | none =>
              match carriageFor c b1 with
              | some a => .ok { stream := i, cls := c, action := a, sync := b2.getLsbD 7, halt := b2.getLsbD 6, data := data }
              | none => .error .carriageInvalid
      | _, _ => .error .classInvalid
  | _ => .error .shortRecord

/-- The stream a whole header names (R5: an incomplete header, and a stream number above 7, "names no stream"). -/
def namedStream (bytes : List Byte) : Option StreamNo :=
  match bytes with
  | b0 :: _ :: _ :: _ :: _ => streamOf (loNibble b0)
  | _ => none

/-! ### Which row a record is (spec/95_what_each_step_holds.md) -/

/-- The records of the table's rows: by class, and for CONTROL by control code and, for SENSE, by selector. -/
inductive Row where
  | print
  | mark
  | close
  | control (code : Byte)
  | sense (selector : Byte)
  deriving DecidableEq, Repr

/-- The eighteen control codes (R174). -/
def knownCode (c : Byte) : Bool := decide (0x01 ≤ c.toNat ∧ c.toNat ≤ 0x0A) || decide (0x21 ≤ c.toNat ∧ c.toNat ≤ 0x28)

/-- The three selectors of SENSE (R175). -/
def knownSelector (c : Byte) : Bool := decide (1 ≤ c.toNat ∧ c.toNat ≤ 3)

/-- A CONTROL record's data may be the row's: a known code, and for SENSE a known selector, is the row's own; a missing or
unknown one leaves it open which row the host meant (CONTROL INVALID stands within every control row). -/
def Row.fitsControl (row : Row) (data : List Byte) : Bool :=
  match row with
  | .control code =>
    match data with
    | [] => true
    | c :: _ => !knownCode c || decide (c = code)
  | .sense selector =>
    match data with
    | [] => true
    | [c] => !knownCode c || decide (c = 0x01#8)
    | c :: k :: _ => !knownCode c || (decide (c = 0x01#8) && (!knownSelector k || decide (k = selector)))
  | _ => false

/-- The bytes a port kept may be a record of the row: where they name a class, code or selector it is the row's (log entry 1). -/
def Row.fits (row : Row) (bytes : List Byte) : Bool :=
  match bytes with
  | [] => true
  | b0 :: rest =>
    match classOf b0 with
    | none => true
    | some .print => decide (row = .print)
    | some .mark => decide (row = .mark)
    | some .close => decide (row = .close)
    | some .control => row.fitsControl (rest.drop 3)

/-! ### Control records: parts 1 and 2 of R8 -/

/-- Parts 1 and 2 of R8: the code is the row's, and an immediate control carries no flag; then the operands, parts 3 and 4. -/
def checkControl {α : Type} (code : Byte) (immediate : Bool) (operands : List Byte → Except Reason α) (h : Header) :
    Except Reason α :=
  match h.data with
  | [] => .error .controlInvalid
  | c :: _ =>
    if c ≠ code then .error .controlInvalid
    else if immediate && (h.sync || h.halt) then .error .classInvalid
    else operands h.data

/-- A value brought into its range (the operands that clamp). -/
def clamp (lo hi n : Nat) : Nat := max lo (min n hi)

/-- Two bytes as a number (R183). -/
def num16 (hi lo : Byte) : Nat := (word16 hi lo).toNat

/-! ### Operands of the immediate controls -/

/-- A control that is its code alone: STREAM RELEASE, CANCEL, STOP, RESUME and OVERLAY END. -/
def readNone (data : List Byte) : Except Reason Unit := if data.length = 1 then .ok () else .error .length

/-- The length and selector of a SENSE (R175): DEVICE and MARK at 2, STREAM at 3, any other selector at 2 or 3. -/
def senseSelector (data : List Byte) : Except Reason Byte :=
  match data with
  | _ :: sel :: rest =>
    if sel = 0x02#8 then if rest.length = 1 then .ok sel else .error .length
    else if sel = 0x01#8 ∨ sel = 0x03#8 then if rest.length = 0 then .ok sel else .error .length
    else if rest.length ≤ 1 then .error .operandRange else .error .length
  | _ => .error .length

/-- SENSE DEVICE and SENSE MARK (R175): no operand beyond the selector. -/
def readSense (selector : Byte) (data : List Byte) : Except Reason Unit :=
  match senseSelector data with
  | .error r => .error r
  | .ok sel => if sel = selector then .ok () else .error .operandRange

/-- SENSE STREAM (R175): the sensed stream, 0 to 7. -/
def readSenseStream (data : List Byte) : Except Reason StreamNo :=
  match senseSelector data with
  | .error r => .error r
  | .ok sel =>
    if sel = 0x02#8 then
      match data.drop 2 with
      | n :: _ =>
        match streamOf n.toNat with
        | some i => .ok i
        | none => .error .operandRange
      | [] => .error .length
    else .error .operandRange

/-- The operands of STREAM OPEN, as clamped (R16). -/
structure OpenOperands where
  quota : Nat
  composerPriority : Fin 4
  imagingPriority : Fin 4
  pageAgeLimit : Nat
  eventMask : Bank Bool 21
  deriving DecidableEq, Repr

/-- A priority clamped to 0 to 3 (R16). -/
def clampPriority (b : Byte) : Fin 4 := Fin.ofNat 4 (min b.toNat 3)

/-- The 21 enables of a 24-bit mask: enable 1 is bit 7 of the first byte; the last 3 bits are ignored (R16, R183). -/
def readMask (a b c : Byte) : Bank Bool 21 := .ofFn fun k => (a ++ b ++ c).getMsbD k.val

/-- STREAM OPEN (R16). -/
def readOpen (data : List Byte) : Except Reason OpenOperands :=
  match data with
  | [_, q1, q0, cp, ip, age, m2, m1, m0] =>
    .ok { quota := clamp 16 2048 (num16 q1 q0), composerPriority := clampPriority cp, imagingPriority := clampPriority ip,
          pageAgeLimit := age.toNat, eventMask := readMask m2 m1 m0 }
  | _ => .error .length

/-- The pitch a byte names (R183). -/
def pitchOf (b : Byte) : Option Pitch := if b = 0x06#8 then some .six else if b = 0x08#8 then some .eight else none

/-- The stop entries of a FORM LOAD, two bytes each. -/
def readStops : List Byte → Option (List StopEntry)
  | [] => some []
  | l :: c :: rest => (readStops rest).map fun es => { line := l.toNat, classes := c } :: es
  | _ => none

/-- Every entry's line is 1 to L, its class set non-empty and within classes 1 to 7, and the lines strictly ascend from the
line given (R27). -/
def stopsInRange (length : Nat) : Nat → List StopEntry → Bool
  | _, [] => true
  | above, e :: es =>
    decide (above < e.line ∧ e.line ≤ length) && decide (e.classes ≠ 0) && !e.classes.getLsbD 0 && stopsInRange length e.line es

/-- FORM LOAD (R27): the form number and the form record it carries. -/
def readFormLoad (data : List Byte) : Except Reason (Fin 4 × Form) :=
  match data with
  | _ :: f :: l :: p :: o :: k :: rest =>
    if rest.length ≠ 2 * k.toNat then .error .length
    else
      match readStops rest, pitchOf p with
      | some stops, some pitch =>
        if h : f.toNat < 4 then
          if 12 ≤ l.toNat ∧ l.toNat ≤ 144 ∧ 1 ≤ o.toNat ∧ o.toNat ≤ l.toNat ∧ k.toNat ≤ 32 ∧ stopsInRange l.toNat 0 stops then
            .ok (⟨f.toNat, h⟩, { length := l.toNat, pitch := pitch, overflowLine := o.toNat, stops := stops })
          else .error .operandRange
        else .error .operandRange
      | _, _ => .error .operandRange
  | _ => .error .length

/-- FORM SELECT (R41): a form number 0 to 3 and a width 1 to 160. -/
def readFormSelect (data : List Byte) : Except Reason Select :=
  match data with
  | [_, f, w] =>
    if h : f.toNat < 4 then
      if 1 ≤ w.toNat ∧ w.toNat ≤ 160 then .ok { form := ⟨f.toNat, h⟩, width := w.toNat } else .error .operandRange
    else .error .operandRange
  | _ => .error .length

/-- PORT SET (R181): 00h off, 01h on. -/
def readPortSet (data : List Byte) : Except Reason Bool :=
  match data with
  | [_, v] => if v = 0x00#8 then .ok false else if v = 0x01#8 then .ok true else .error .operandRange
  | _ => .error .length

/-- A sheet size clamped (R152). -/
def clampSheet (w1 w0 h1 h0 : Byte) : SheetSize :=
  { width := clamp 1200 3300 (num16 w1 w0), height := clamp 1500 5100 (num16 h1 h0) }

/-- The bit order a byte names (R183). -/
def bitOrderOf (b : Byte) : Option BitOrder :=
  if b = 0x00#8 then some .leftmostInMsb else if b = 0x01#8 then some .leftmostInLsb else none

/-- The polarity a byte names (R183). -/
def polarityOf (b : Byte) : Option Polarity :=
  if b = 0x00#8 then some .blackAsOne else if b = 0x01#8 then some .blackAsZero else none

/-- ENGINE SET (R152), its numbers clamped, its enumerations not. -/
def readEngineSet (data : List Byte) : Except Reason EngineSettings :=
  match data with
  | [_, d, t, w1, w0, h1, h0, v1, v0, g1, g0, o, q] =>
    match bitOrderOf o, polarityOf q with
    | some order, some pol =>
      .ok { pathDepth := clamp 1 6 d.toNat, stackTimeout := clamp 1 60 t.toNat, tray1 := clampSheet w1 w0 h1 h0,
            tray2 := clampSheet v1 v0 g1 g0, bitOrder := order, polarity := pol }
    | _, _ => .error .operandRange
  | _ => .error .length

/-! ### Operands of the queued controls -/

/-- The table set a byte names (R183). -/
def tableSetOf (b : Byte) : Option (Fin 2) := if h : b.toNat < 2 then some ⟨b.toNat, h⟩ else none

/-- The glyph number two bytes name (R50, R52). -/
def glyphOf (hi lo : Byte) : Option Glyph := if h : num16 hi lo < 384 then some ⟨num16 hi lo, h⟩ else none

/-- A mark number of a translate entry: 0 means absent (R50). -/
def markOf (b : Byte) : Option MarkNo :=
  if b.toNat % 16 = 0 then none else some ⟨b.toNat % 16, Nat.mod_lt _ (by decide)⟩

/-- A translate entry's three bytes (R50, R183): of kinds other than GLYPH the glyph and mark numbers are not checked. -/
def xlateEntryOf (k g1 g0 : Byte) : Option XlateEntry :=
  match hiNibble k with
  | 0 => some .void
  | 1 => some .space
  | 2 => some .underscore
  | 3 => (glyphOf g1 g0).map fun g => .glyph g (markOf k)
  | _ => none

/-- The translate entries of an XLATE LOAD, three bytes each. -/
def readXlateEntries : List Byte → Option (List XlateEntry)
  | [] => some []
  | k :: g1 :: g0 :: rest =>
    match xlateEntryOf k g1 g0, readXlateEntries rest with
    | some e, some es => some (e :: es)
    | _, _ => none
  | _ => none

/-- XLATE LOAD (R50). -/
def readXlateLoad (data : List Byte) : Except Reason Body :=
  match data with
  | _ :: set :: first :: k :: rest =>
    if rest.length ≠ 3 * k.toNat then .error .length
    else
      match tableSetOf set, readXlateEntries rest with
      | some n, some entries =>
        if 1 ≤ k.toNat ∧ k.toNat ≤ 60 ∧ first.toNat + k.toNat - 1 ≤ 255 then .ok (.xlateLoad n first.toNat entries)
        else .error .operandRange
      | _, _ => .error .operandRange
  | _ => .error .length

/-- A pair entry's mark number, 1 to 15 (R52). -/
def pairMarkOf (b : Byte) : Option MarkNo :=
  if h : 1 ≤ b.toNat ∧ b.toNat < 16 then some ⟨b.toNat, h.2⟩ else none

/-- The pair entries of a PAIR LOAD, five bytes each (R52). -/
def readPairEntries : List Byte → Option (List PairEntry)
  | [] => some []
  | g1 :: g0 :: m :: c1 :: c0 :: rest =>
    match glyphOf g1 g0, pairMarkOf m, glyphOf c1 c0, readPairEntries rest with
    | some g, some k, some c, some es => some ({ glyph := g, mark := k, composite := c } :: es)
    | _, _, _, _ => none
  | _ => none

/-- PAIR LOAD (R52). -/
def readPairLoad (data : List Byte) : Except Reason Body :=
  match data with
  | _ :: set :: k :: rest =>
    if rest.length ≠ 5 * k.toNat then .error .length
    else
      match tableSetOf set, readPairEntries rest with
      | some n, some entries =>
        if 1 ≤ k.toNat ∧ k.toNat ≤ 40 then .ok (.pairLoad n entries) else .error .operandRange
      | _, _ => .error .operandRange
  | _ => .error .length

/-- PAIR CLEAR (R54). -/
def readPairClear (data : List Byte) : Except Reason Body :=
  match data with
  | [_, set] =>
    match tableSetOf set with
    | some n => .ok (.pairClear n)
    | none => .error .operandRange
  | _ => .error .length

/-- A number from 0 to 7 (a geometry entry or an overlay slot). -/
def eightOf (b : Byte) : Option (Fin 8) := if h : b.toNat < 8 then some ⟨b.toNat, h⟩ else none

/-- GEOMETRY LOAD (R109). -/
def readGeometryLoad (data : List Byte) : Except Reason Body :=
  match data with
  | [_, n, a1, a0, b1, b0, c1, c0, d1, d0] =>
    match eightOf n with
    | some entry =>
      let g : Geometry := { mx := num16 a1 a0, my := num16 b1 b0, sx := num16 c1 c0, sy := num16 d1 d0 }
      if g.mx ≤ 3299 ∧ g.my ≤ 5099 ∧ 1 ≤ g.sx ∧ g.sx ≤ 3300 ∧ 1 ≤ g.sy ∧ g.sy ≤ 5100 then .ok (.geometryLoad entry g)
      else .error .operandRange
    | none => .error .operandRange
  | _ => .error .length

/-- An overlay slot attribute: 00h to 07h, or FFh for none (R183). -/
def overlayOf (b : Byte) : Option (Option (Fin 8)) :=
  if b = 0xFF#8 then some none else (eightOf b).map some

/-- The tray a byte names (R183). -/
def trayOf (b : Byte) : Option Tray := if b = 0x01#8 then some .one else if b = 0x02#8 then some .two else none

/-- The stacker a byte names (R183). -/
def stackerOf (b : Byte) : Option Stacker := if b = 0x01#8 then some .one else if b = 0x02#8 then some .two else none

/-- The blank-forms value a byte names (R183). -/
def blankFormsOf (b : Byte) : Option BlankForms :=
  if b = 0x00#8 then some .discard else if b = 0x01#8 then some .print else none

/-- STREAM SET (R15): copies clamps to 1 to 9, every other operand is an enumeration. -/
def readStreamSet (data : List Byte) : Except Reason Body :=
  match data with
  | [_, ts, ge, ov, tr, st, co, bf] =>
    match tableSetOf ts, eightOf ge, overlayOf ov, trayOf tr, stackerOf st, blankFormsOf bf with
    | some set, some geometry, some overlay, some tray, some stacker, some blank =>
      .ok (.streamSet { tableSet := set, geometry := geometry, overlay := overlay, tray := tray, stacker := stacker,
                        copies := clamp 1 9 co.toNat, blankForms := blank })
    | _, _, _, _, _, _ => .error .operandRange
  | _ => .error .length

/-- OVERLAY BEGIN (R124). -/
def readOverlayBegin (data : List Byte) : Except Reason Body :=
  match data with
  | [_, k, d1, d0] =>
    match eightOf k with
    | some slot => if 1 ≤ num16 d1 d0 ∧ num16 d1 d0 ≤ 256 then .ok (.overlayBegin slot (num16 d1 d0)) else .error .operandRange
    | none => .error .operandRange
  | _ => .error .length

/-- The density a band's first byte names (R183). -/
def densityOf (b : Byte) : Option Density :=
  match loNibble b with
  | 1 => some .quarter
  | 2 => some .half
  | _ => none

/-- An overlay entry's kind with its two extents, in range (R125); a rule's density is not checked. -/
def shapeOf (k : Byte) (first second : Nat) : Option Shape :=
  match hiNibble k with
  | 1 => if 1 ≤ first ∧ first ≤ 5100 ∧ 1 ≤ second ∧ second ≤ 64 then some (.hrule first second) else none
  | 2 => if 1 ≤ first ∧ first ≤ 5100 ∧ 1 ≤ second ∧ second ≤ 64 then some (.vrule first second) else none
  | 3 =>
    if 1 ≤ first ∧ first ≤ 5100 ∧ 1 ≤ second ∧ second ≤ 5100 then (densityOf k).map fun d => .band first second d else none
  | _ => none

/-- An overlay entry of OVERLAY ENTRIES, with its ranges (R125). -/
def overlayEntryOf (k : Byte) (x y first second repeatCount step : Nat) : Option OverlayEntry :=
  if x ≤ 5099 ∧ y ≤ 5099 ∧ 1 ≤ repeatCount ∧ step ≤ 5100 then
    (shapeOf k first second).map fun shape => { shape := shape, x := x, y := y, repeatCount := repeatCount, step := step }
  else none

/-- The entries of an OVERLAY ENTRIES record, twelve bytes each (R125). -/
def readOverlayList : List Byte → Option (List OverlayEntry)
  | [] => some []
  | k :: x1 :: x0 :: y1 :: y0 :: f1 :: f0 :: g1 :: g0 :: n :: s1 :: s0 :: rest =>
    match overlayEntryOf k (num16 x1 x0) (num16 y1 y0) (num16 f1 f0) (num16 g1 g0) n.toNat (num16 s1 s0),
      readOverlayList rest with
    | some e, some es => some (e :: es)
    | _, _ => none
  | _ => none

/-- OVERLAY ENTRIES (R125). -/
def readOverlayEntries (data : List Byte) : Except Reason Body :=
  match data with
  | _ :: k :: rest =>
    if rest.length ≠ 12 * k.toNat then .error .length
    else
      match readOverlayList rest with
      | some entries => if 1 ≤ k.toNat ∧ k.toNat ≤ 16 then .ok (.overlayEntries entries) else .error .operandRange
      | none => .error .operandRange
  | _ => .error .length

/-- OVERLAY END (R124): the control code alone. -/
def readOverlayEnd (data : List Byte) : Except Reason Body :=
  match readNone data with
  | .ok _ => .ok .overlayEnd
  | .error r => .error r

end Sys2Proof.Machine
end

