-- ==== Sys2Proof/Machine/Gate.lean ====
section
/-! DEFINITION. The Record Gate and the ports' reception and return (sections 1.2 of spec/01_print_records_streams_and_the_spool.md
and 10.1 to 10.2 of spec/10_channel_ports_control_records_and_status_return.md): a record's end event, its checks, its answer,
and what the immediate controls do. -/

namespace Sys2Proof.Machine

/-- What the last steps of R4 decide of a record that has passed its checks. -/
inductive Ruling where
  /-- TAKEN: the state after it, OVERFLOW, and the sense frames to return -/
  | taken (s : State) (overflow : Bool) (frames : List Byte)
  | held
  | refused (r : Reason)

/-! ### Reception (R170, R182) -/

/-- The port enters RECEIVING with a byte count of 0 (R170). -/
def PortState.receive (q : PortState) : PortState :=
  { q with reception := .receiving, count := 0, bytes := [], ranLong := false }

/-- The host raises FRAME: in IDLE it begins a record, unless RESET is asserted; in ANSWERING it is only noted (R170, R182). -/
def PortState.raiseFrame (q : PortState) : PortState :=
  if q.frame then q
  else if q.reception = .idle ∧ q.reset = false then { q with frame := true }.receive
  else { q with frame := true }

/-- The bytes of the record being received that its header declares in all: 4 and the data length, once the header is whole. -/
def PortState.declared (q : PortState) : Nat :=
  match q.bytes with
  | _ :: _ :: _ :: n :: _ => 4 + n.toNat
  | _ => 4

/-- A byte is strobed (R170): in RECEIVING it is acknowledged and counted, and kept up to the declared length; in the other
states it is not acknowledged. -/
def PortState.strobe (q : PortState) (b : Byte) : PortState :=
  match q.reception with
  | .receiving =>
    if q.bytes.length < q.declared then
      { q with acknowledged := true, count := q.count + 1, bytes := q.bytes ++ [b] }
    else { q with acknowledged := true, count := q.count + 1, ranLong := true }
  | _ => { q with acknowledged := false }

/-- The host acknowledges `n` bytes of the answer (R171; log entry 17). At the last BUSY falls and the port is IDLE, or RECEIVING where FRAME
is asserted (R170). -/
def PortState.returnBytes (q : PortState) (n : Nat) : PortState :=
  match q.reception with
  | .answering =>
    let sent := { q with answer := q.answer.drop n, returned := q.returned ++ q.answer.take n }
    if q.answer.length ≤ n then
      if q.frame then sent.receive else { sent with reception := .idle }
    else sent
  | _ => q

/-- The port enters ANSWERING with the answer's bytes (R170, R171). The kept bytes have been handed to the gate (log entry 22). -/
def PortState.beginAnswer (q : PortState) (bytes : List Byte) : PortState :=
  { q with reception := .answering, count := 0, bytes := [], ranLong := false, answer := bytes, returned := [] }

/-- The answer is formed from the state as it stands once the record has been acted on (R170 to R172). -/
def State.answer (s : State) (p : Port) (a : Answer) (overflow : Bool) (frames : List Byte) : State :=
  s.updPort p fun q =>
    q.beginAnswer (frames ++ [statusByte a overflow (s.attention p) s.notRunning] ++ a.reasonBytes)

/-! ### Refusals (R10) -/

/-- A refusal is counted on the stream the header named where that stream is bound to the port, or where step 3 refused. -/
def State.countRefusal (s : State) (p : Port) (named : Option StreamNo) (r : Reason) : State :=
  match named with
  | none => s
  | some i =>
    if (s.stream i).binding = some p ∨ r = .streamBusy ∨ r = .streamNotOpen then s.countCond i r.cond else s

/-- A record is REFUSED: counted, and answered with its reason (R10, R171). -/
def State.refuse (s : State) (p : Port) (bytes : List Byte) (r : Reason) : State :=
  (s.countRefusal p (namedStream bytes) r).answer p (.refused r) false []

/-! ### The end event (R4, R170) -/

/-- The records-taken counter of the stream advances (R11), after the record's effects and its sense frames (log entry 15). -/
def State.countTaken (s : State) (i : StreamNo) : State :=
  s.updStream i fun t => { t with recordsTaken := t.recordsTaken + 1 }

/-- The gate's checks and their answer (R4) for a record of a row: steps 1 to 5, then the row's operands (step 6), then what
the row's rule decides (steps 7 to 9). A SENSE's frames, its clearing and the ending status are formed in this one step, so no cause
joins the set between them (R172; log entry 28). -/
def State.gate {α : Type} (s : State) (p : Port) (operands : Header → Except Reason α) (rule : Header → α → State → Ruling) :
    State :=
  let q := s.port p
  match checkHeader s p q.bytes q.ranLong with
  | .error r => s.refuse p q.bytes r
  | .ok h =>
    match operands h with
    | .error r => s.refuse p q.bytes r
    | .ok a =>
      match rule h a s with
      | .refused r => s.refuse p q.bytes r
      | .held => s.answer p .held false []
      | .taken after overflow frames => (after.countTaken h.stream).answer p .taken overflow frames

/-- FRAME falls. -/
def State.lowerFrame (s : State) (p : Port) : State := s.updPort p fun q => { q with frame := false }

/-- The fall of a port's FRAME as a row's command (R170). In RECEIVING it is the end event of the record the port kept, and the
command is that event where the bytes may be a record of the row (log entry 1); in the other states the line falls and no
record ends. -/
def State.endEvent {α : Type} (s : State) (row : Row) (p : Port) (operands : Header → Except Reason α)
    (rule : Header → α → State → Ruling) : State :=
  let q := s.port p
  if q.reception = .receiving then
    if row.fits q.bytes then (s.lowerFrame p).gate p operands rule else s
  else s.lowerFrame p

/-! ### Queued records: step 8 (R11, R21) -/

/-- The slot request (R21). -/
def State.slotFree (s : State) (i : StreamNo) : Bool :=
  decide (s.queueCount i < (s.stream i).quota ∧ 0 < s.spoolFree)

/-- A queued record of any class is HELD (R11): the run state is not RUN, or the slot request fails. -/
def State.holdsQueued (s : State) (i : StreamNo) : Bool := decide (s.run ≠ .run) || !s.slotFree i

/-- A PRINT record is HELD besides under attention hold while the port's attention is pending (R11, R181). -/
def State.holdsPrint (s : State) (p : Port) (i : StreamNo) : Bool :=
  s.holdsQueued i || ((s.port p).hold && s.attention p)

/-- A queued CONTROL record: HELD, or stamped and queued without motion (R11, R40). -/
def queueControl (h : Header) (b : Body) (s : State) : Ruling :=
  if s.holdsQueued h.stream then .held else .taken (s.takeStillRecord h.stream b h.sync h.halt) false []

/-! ### Immediate controls: step 7 -/

/-- A SENSE DEVICE (R176): the frame, then the port's cause set and device condition set are emptied. -/
def senseDeviceRule (p : Port) (s : State) : Ruling :=
  .taken (s.updPort p fun q => { q with causes := .empty, deviceSet := .replicate 7 false }) false (s.deviceFrame p)

/-- A SENSE STREAM of stream `i` (R175, R176). -/
def senseStreamRule (p : Port) (i : StreamNo) (s : State) : Ruling :=
  if (s.stream i).binding = none ∨ (s.stream i).binding = some p then
    .taken
      ((s.updStream i fun t => { t with counts := .replicate 21 0 }).updPort p
        fun q => { q with causes := q.causes.remove (.stream i) })
      false (s.streamFrame i ++ s.conditionsFrame i)
  else .refused .operandRange

/-- A SENSE MARK (R176, R178). -/
def senseMarkRule (p : Port) (s : State) : Ruling :=
  .taken (s.updPort p fun q => { q with capture := none, renewed := false, causes := q.causes.remove .mark }) false
    (s.port p).markFrame

/-- The stream record a first open sets (R16, R29, R62, R84, R90). -/
def Stream.firstOpen (t : Stream) (p : Port) (o : OpenOperands) : Stream :=
  { t with
    binding := some p, quota := o.quota, composerPriority := o.composerPriority, imagingPriority := o.imagingPriority,
    pageAgeLimit := o.pageAgeLimit, eventMask := o.eventMask, attributes := .initial, wait := .none,
    counts := .replicate 21 0, recordsTaken := 0, linesComposed := 0, pagesStacked := 0, syncsCompleted := 0,
    marksDelivered := 0, carriage := .initial, pageAge := .stopped, fenceClaim := none, pageCounter := 1, lastLined := none,
    blankFormsCounter := 0 }

/-- The settings a re-open replaces (R17). -/
def Stream.reopen (t : Stream) (o : OpenOperands) : Stream :=
  { t with quota := o.quota, composerPriority := o.composerPriority, imagingPriority := o.imagingPriority,
           pageAgeLimit := o.pageAgeLimit, eventMask := o.eventMask }

/-- STREAM OPEN (R16, R17). -/
def streamOpenRule (p : Port) (i : StreamNo) (o : OpenOperands) (s : State) : Ruling :=
  match (s.stream i).binding with
  | none =>
    if s.pagesOf i ≠ [] then .refused .streamActive else .taken (s.updStream i fun t => t.firstOpen p o) false []
  | some _ =>
    if o.quota < s.queueCount i then .refused .operandRange else .taken (s.updStream i fun t => t.reopen o) false []

/-- The stream still holds work (R18). -/
def State.active (s : State) (i : StreamNo) : Bool :=
  let t := s.stream i
  decide (t.queue ≠ []) || t.buffer.isSome || decide (s.pagesOf i ≠ []) || decide (t.wait ≠ .none) || (s.openLoad i).isSome

/-- STREAM RELEASE (R18). -/
def streamReleaseRule (i : StreamNo) (s : State) : Ruling :=
  if s.active i then .refused .streamActive else .taken (s.updStream i fun t => { t with binding := none }) false []

/-- FORM LOAD (R28). -/
def formLoadRule (f : Fin 4) (form : Form) (s : State) : Ruling :=
  if s.formInUse f then .refused .formInUse else .taken { s with forms := s.forms.set f form } false []

/-- FORM SELECT (R42). -/
def formSelectRule (i : StreamNo) (sel : Select) (s : State) : Ruling :=
  .taken (s.setCarriage i ((s.stream i).carriage.select sel.form sel.width)) false []

/-- ENGINE SET (R152, R153): taken only in STOPPED. -/
def engineSetRule (e : EngineSettings) (s : State) : Ruling :=
  if s.run = .stopped then .taken { s with settings := e } false [] else .refused .notStopped

/-! ### Resets (R24, R182, R190) -/

/-- A port drops its record or answer and empties its attention, capture, device set and hold; its RESET line is high (R182). -/
def PortState.onReset (q : PortState) : PortState :=
  { q with reset := true, reception := .idle, count := 0, bytes := [], ranLong := false, answer := [], causes := .empty,
           deviceSet := .replicate 7 false, hold := false, capture := none, renewed := false }

/-- RESET falls (R182): "a FRAME already asserted is taken as a new record at once". -/
def PortState.onRelease (q : PortState) : PortState :=
  let low := { q with reset := false }
  if q.reset = true ∧ q.frame = true ∧ q.reception = .idle then low.receive else low

/-- A stream bound to the port is cancelled and unbound (R24). -/
def State.unbindFrom (s : State) (p : Port) (i : StreamNo) : State :=
  if (s.stream i).binding = some p then (s.cancelStream i).updStream i fun t => { t with binding := none } else s

/-- The rise of a port's RESET line (R182, R193); a line already high does not rise (log entry 18). -/
def State.resetPort (s : State) (p : Port) : State :=
  if (s.port p).reset then s
  else allStreams.foldl (fun u i => u.unbindFrom p i) (s.updPort p PortState.onReset)

/-- CANCEL applied to a stream that is bound (R190 step 1). -/
def State.cancelBound (s : State) (i : StreamNo) : State :=
  if (s.stream i).binding = none then s else s.cancelStream i

/-- The PURGE that is honoured (R190): every bound stream cancelled, a taking under way ended without effect, every page discarded,
the recovery list, tags, timer and buffers cleared, the run state STOPPED with cause PURGE. -/
def State.purgeAll (s : State) : State :=
  let emptied := (allStreams.foldl State.cancelBound s).discardPages fun _ => true
  State.enterStopped
    { emptied with
      taking := none
      recovery := []
      confirm := emptied.issue
      ring := .replicate 16 none
      stackTimer := none
      buffers := .replicate 2 .free
      offer := []
      cause := .purge }

/-- PURGE (R190): honoured in STOPPED and CHECK, ignored in RUN and STOPPING. -/
def State.purge (s : State) : State :=
  match s.run with
  | .stopped => s.purgeAll
  | .check => s.purgeAll
  | .run => s
  | .stopping => s

end Sys2Proof.Machine
end

