-- ==== Sys2Proof/Machine/ControlCommands.lean ====
section
/-! DEFINITION. The end events of the immediate controls (R174): acted on at the gate in every run state (R11). -/

namespace Sys2Proof.Machine

/-- SENSE_DEVICE (R176). -/
def execSenseDevice (p : Port) (s : State) : Result :=
  .next (s.endEvent (.sense 0x01#8) p (checkControl 0x01#8 true (readSense 0x01#8)) fun _ _ u => senseDeviceRule p u)

/-- SENSE_STREAM (R175, R176). -/
def execSenseStream (p : Port) (s : State) : Result :=
  .next (s.endEvent (.sense 0x02#8) p (checkControl 0x01#8 true readSenseStream) fun _ i u => senseStreamRule p i u)

/-- SENSE_MARK (R176, R178). -/
def execSenseMark (p : Port) (s : State) : Result :=
  .next (s.endEvent (.sense 0x03#8) p (checkControl 0x01#8 true (readSense 0x03#8)) fun _ _ u => senseMarkRule p u)

/-- STREAM_OPEN (R16, R17). -/
def execStreamOpen (p : Port) (s : State) : Result :=
  .next (s.endEvent (.control 0x02#8) p (checkControl 0x02#8 true readOpen) fun h o u => streamOpenRule p h.stream o u)

/-- STREAM_RELEASE (R18). -/
def execStreamRelease (p : Port) (s : State) : Result :=
  .next (s.endEvent (.control 0x03#8) p (checkControl 0x03#8 true readNone) fun h _ u => streamReleaseRule h.stream u)

/-- CANCEL (R19): "It is TAKEN in every run state". -/
def execCancel (p : Port) (s : State) : Result :=
  .next (s.endEvent (.control 0x04#8) p (checkControl 0x04#8 true readNone)
    fun h _ u => .taken (u.cancelStream h.stream) false [])

/-- FORM_LOAD (R27, R28). -/
def execFormLoad (p : Port) (s : State) : Result :=
  .next (s.endEvent (.control 0x05#8) p (checkControl 0x05#8 true readFormLoad) fun _ f u => formLoadRule f.1 f.2 u)

/-- FORM_SELECT (R41, R42). -/
def execFormSelect (p : Port) (s : State) : Result :=
  .next (s.endEvent (.control 0x06#8) p (checkControl 0x06#8 true readFormSelect)
    fun h sel u => formSelectRule h.stream sel u)

/-- PORT_SET (R181): the hold of the port the record arrived on. -/
def execPortSet (p : Port) (s : State) : Result :=
  .next (s.endEvent (.control 0x07#8) p (checkControl 0x07#8 true readPortSet)
    fun _ on u => .taken (u.updPort p fun q => { q with hold := on }) false [])

/-- STOP (R185): a stop request with cause CONTROL. -/
def execStop (p : Port) (s : State) : Result :=
  .next (s.endEvent (.control 0x08#8) p (checkControl 0x08#8 true readNone) fun _ _ u => .taken (u.stopRequest .control) false [])

/-- RESUME (R187): as START. -/
def execResume (p : Port) (s : State) : Result :=
  .next (s.endEvent (.control 0x09#8) p (checkControl 0x09#8 true readNone) fun _ _ u => .taken u.start false [])

/-- ENGINE_SET (R152, R153). -/
def execEngineSet (p : Port) (s : State) : Result :=
  .next (s.endEvent (.control 0x0A#8) p (checkControl 0x0A#8 true readEngineSet) fun _ e u => engineSetRule e u)

end Sys2Proof.Machine
end

