-- ==== Sys2Proof/Machine/Engine.lean ====
section
/-! DEFINITION. The Engine Link (spec/09_engine_link_and_jam_recovery.md): issue, sending, confirmation, jam recovery and the
engine's reports. -/

namespace Sys2Proof.Machine

/-! ### Issue and sending (R155, R156, R144) -/

/-- The head of the offer order, where it is a READY buffer whose page is in the store (R143, R155). -/
def State.readyHead (s : State) : Option (Fin 2 × Page) :=
  match s.offer with
  | [] => none
  | b :: _ => if (s.buffer b).state = .ready then (s.bufferPage b).map fun p => (b, p) else none

/-- The conditions of an issue other than the READY head (R155). -/
def State.mayIssue (s : State) : Bool :=
  decide (s.run = .run ∧ s.engineReady = true ∧ s.outstanding < s.settings.pathDepth)

/-- An issue's one step (R155) from buffer `b` with page `p`. -/
def State.issueFrom (s : State) (b : Fin 2) (p : Page) : State :=
  let r := s.buffer b
  let timer := if s.outstanding = 0 then some s.settings.stackTimeout else s.stackTimer
  { (s.issueCopy p.ref).setBuffer b { r with state := .sending } with
    ring := s.ring.set (tagIndex s.issue) (some { page := p.ref, dataComplete := false })
    issue := s.issue + 1
    stackTimer := timer
    request := some { tag := s.issue, tray := p.tray, stacker := p.stacker, width := r.width, height := r.height } }

/-- The Engine Link issues a copy where the conditions of R155 hold; otherwise it issues none. -/
def State.issueSheet (s : State) : State :=
  if s.mayIssue then
    match s.readyHead with
    | some (b, p) => s.issueFrom b p
    | none => s
  else s

/-- The SENDING buffer, if any; at most one sends at a time (R144). -/
def State.sendingBuffer (s : State) : Option (Fin 2) :=
  allBuffers.find? fun b => decide ((s.buffer b).state = .sending)

/-- The ring entry of the copy being sent, the newest outstanding sheet (log entry 19): data complete becomes yes (R156). -/
def State.completeData (s : State) : State :=
  { s with ring := s.ring.modify (tagIndex (s.issue - 1)) fun e => e.map fun t => { t with dataComplete := true } }

/-- The last row of a copy's data is sent (R144, R156): the sheet is data complete, and the buffer returns to READY while copies
remain to be issued, or becomes FREE. -/
def State.sendDone (s : State) : State :=
  match s.sendingBuffer with
  | none => s
  | some b =>
    match s.bufferPage b with
    | none => s
    | some p =>
      let sent := { s.completeData with sentRows := sendRows s.settings (s.buffer b).dots }
      if p.copiesIssued < p.copies then sent.setBuffer b { s.buffer b with state := .ready } else sent.releaseBuffer b

/-! ### Jam recovery (R161, R162) -/

/-- The pages of a list, each once, at its first place (R162). -/
def firstPlaces : List PageRef → List PageRef
  | [] => []
  | r :: rs => r :: (firstPlaces rs).filter fun q => !decide (q = r)

/-- Steps 1 to 4 of R161: lost copies, the recovery list, the counters and the buffers. -/
def State.recover (s : State) : State :=
  let lost := firstPlaces s.outstandingPages
  let before := s.recovery.filter fun r => !decide (r ∈ lost)
  State.jamBuffers
    { s with
      pages := s.pages.map fun p => if p.ref ∈ lost then { p with copiesIssued := p.copiesStacked, state := .closed } else p
      recovery := lost ++ before
      confirm := s.issue
      ring := .replicate 16 none
      stackTimer := none }
    lost before

/-- A jam-class event (R161): recovery, its device condition, and the run state (R164). -/
def State.jamEvent (s : State) (d : DevCond) (c : Cause) : State := (s.recover.deviceCond d).engineCause c

/-! ### Confirmation (R157, R158) -/

/-- The tag is among the outstanding tags (R154). -/
def State.isOutstanding (s : State) (tag : BitVec 4) : Bool := decide ((tag - s.confirm).toNat < s.outstanding)

/-- The tag's sheet has data complete yes (R154). -/
def State.dataComplete (s : State) (tag : BitVec 4) : Bool :=
  match s.ring.get (tagIndex tag) with
  | some e => e.dataComplete
  | none => false

/-- The oldest outstanding sheet is confirmed (R157). -/
def State.confirmOldest (s : State) : State :=
  let entry := s.ring.get (tagIndex s.confirm)
  let advanced :=
    { s with confirm := s.confirm + 1, ring := s.ring.set (tagIndex s.confirm) none, sheetsStacked := s.sheetsStacked + 1 }
  let told :=
    match entry with
    | some e => advanced.confirmCopy e.page
    | none => advanced
  State.testStopped
    { told with stackTimer := if told.outstanding = 0 then none else some told.settings.stackTimeout }

/-- A STACKED report (R157, R158). -/
def State.stackedReport (s : State) (tag : BitVec 4) : State :=
  if s.isOutstanding tag then
    if tag = s.confirm ∧ s.dataComplete tag then s.confirmOldest else s.jamEvent .sequence .jam
  else s.deviceCond .lateStack

/-! ### Reports (R149, R150, R165, R166) -/

/-- NOT READY, TRAY EMPTY and STACKER FULL (R165). -/
def State.lossOfReadiness (s : State) (d : DevCond) (c : Cause) : State :=
  ({ s with engineReady := false }.deviceCond d).engineCause c

/-- A TRAY EMPTY or STACKER FULL names tray or stacker 1 or 2; with another number it is no report of the table of R149 and is
discarded without effect (log entry 10). -/
def State.numberedReport (s : State) (n : Nat) (d : DevCond) (c : Cause) : State :=
  if n = 1 ∨ n = 2 then s.lossOfReadiness d c else s

/-- The causes of CHECK that a READY report clears (R166). -/
def Cause.clearedByReady : Cause → Bool
  | .notReady => true
  | .trayEmpty => true
  | .stackerFull => true
  | .engineRestart => true
  | _ => false

/-- A READY report (R150, R166). -/
def State.readyReport (s : State) : State :=
  let ready := { s with engineReady := true }
  if s.run = .check ∧ s.cause.clearedByReady then { ready with run := .run } else ready

/-- A RESTARTED report (R161, R165). -/
def State.restartedReport (s : State) : State :=
  { s with engineReady := false }.jamEvent .engineNotReady .engineRestart

/-- A running stack timer runs out (R160); a STOPPED timer does not. -/
def State.stackTimerExpires (s : State) : State :=
  match s.stackTimer with
  | some _ => s.jamEvent .stackTimeout .jam
  | none => s

end Sys2Proof.Machine
end

