-- ==== Sys2Proof/Machine/EngineCommands.lean ====
section
/-! DEFINITION. The imager's and the Engine Link's steps and the engine's reports (chapters 08 and 09). -/

namespace Sys2Proof.Machine

/-- SELECTION (R140). -/
def execSelection (s : State) : Result := .next s.select

/-- RENDERING_COMPLETE (R142). -/
def execRenderingComplete (s : State) : Result := .next s.renderingDone

/-- SHEET (R155). -/
def execSheet (s : State) : Result := .next s.issueSheet

/-- SEND_COMPLETE (R156). -/
def execSendComplete (s : State) : Result := .next s.sendDone

/-- READY (R166). -/
def execReady (s : State) : Result := .next s.readyReport

/-- NOT_READY (R165). -/
def execNotReady (s : State) : Result := .next (s.lossOfReadiness .engineNotReady .notReady)

/-- TRAY_EMPTY (R165): "either number has the same effect" (R149). -/
def execTrayEmpty (tray : Nat) (s : State) : Result := .next (s.numberedReport tray .trayEmpty .trayEmpty)

/-- STACKER_FULL (R165): "either number has the same effect" (R149). -/
def execStackerFull (stacker : Nat) (s : State) : Result := .next (s.numberedReport stacker .stackerFull .stackerFull)

/-- STACKED (R157, R158). -/
def execStacked (tag : BitVec 4) (s : State) : Result := .next (s.stackedReport tag)

/-- JAM (R161). -/
def execJam (s : State) : Result := .next (s.jamEvent .jam .jam)

/-- RESTARTED (R161, R165). -/
def execRestarted (s : State) : Result := .next s.restartedReport

/-- UNRECOGNISED_REPORT (R149): "discarded without effect". -/
def execUnrecognisedReport (_code : Byte) (s : State) : Result := .next s

/-- STACK_TIMEOUT (R160). -/
def execStackTimeout (s : State) : Result := .next s.stackTimerExpires

end Sys2Proof.Machine
end

