-- ==== Sys2Proof/Machine/PanelCommands.lean ====
section
/-! DEFINITION. The panel's samples, by the command the keys give at them (R188, R189). -/

namespace Sys2Proof.Machine

/-- PANEL_START (R187, R189). -/
def execPanelStart (k : KeySample) (s : State) : Result := .next (s.panelSample k .start State.start)

/-- PANEL_STOP (R185, R189): a stop request with cause PANEL. -/
def execPanelStop (k : KeySample) (s : State) : Result := .next (s.panelSample k .stop fun u => u.stopRequest .panel)

/-- PURGE (R189, R190). -/
def execPurge (k : KeySample) (s : State) : Result := .next (s.panelSample k .purge State.purge)

/-- KEY_SAMPLE (R188): a sample that gives no command changes the keys' states alone. -/
def execKeySample (k : KeySample) (s : State) : Result := .next (s.panelSample k .none fun u => u)

end Sys2Proof.Machine
end

