-- ==== Sys2Proof/Machine/PortCommands.lean ====
section
/-! DEFINITION. The resets and the ports' lines and bytes: POWER_ON_RESET, PORT_RESET, RESET_RELEASE, FRAME_RISE, BYTE_STROBE and
ANSWER_RETURN. -/

namespace Sys2Proof.Machine

/-- POWER_ON_RESET (R192): every block takes its power-on values. The commands that wait are not the part's state. -/
def execPowerOnReset (s : State) : Result := .next { State.reset with pending := s.pending }

/-- PORT_RESET (R182, R193). -/
def execPortReset (p : Port) (s : State) : Result := .next (s.resetPort p)

/-- RESET_RELEASE (R182). -/
def execResetRelease (p : Port) (s : State) : Result := .next (s.updPort p PortState.onRelease)

/-- FRAME_RISE (R170, R182). -/
def execFrameRise (p : Port) (s : State) : Result := .next (s.updPort p PortState.raiseFrame)

/-- BYTE_STROBE (R170). -/
def execByteStrobe (p : Port) (b : Byte) (s : State) : Result := .next (s.updPort p fun q => q.strobe b)

/-- ANSWER_RETURN (R171): the host acknowledges `n` bytes of the answer. -/
def execAnswerReturn (p : Port) (n : Nat) (s : State) : Result := .next (s.updPort p fun q => q.returnBytes n)

end Sys2Proof.Machine
end

