-- ==== Sys2Proof/Machine/QueuedCommands.lean ====
section
/-! DEFINITION. The end events of the queued controls (R174): checked at the gate, and stamped and queued where taken (R11, R40). -/

namespace Sys2Proof.Machine

/-- XLATE_LOAD (R50). -/
def execXlateLoad (p : Port) (s : State) : Result :=
  .next (s.endEvent (.control 0x21#8) p (checkControl 0x21#8 false readXlateLoad) queueControl)

/-- PAIR_LOAD (R52). -/
def execPairLoad (p : Port) (s : State) : Result :=
  .next (s.endEvent (.control 0x22#8) p (checkControl 0x22#8 false readPairLoad) queueControl)

/-- PAIR_CLEAR (R54). -/
def execPairClear (p : Port) (s : State) : Result :=
  .next (s.endEvent (.control 0x23#8) p (checkControl 0x23#8 false readPairClear) queueControl)

/-- GEOMETRY_LOAD (R109). -/
def execGeometryLoad (p : Port) (s : State) : Result :=
  .next (s.endEvent (.control 0x24#8) p (checkControl 0x24#8 false readGeometryLoad) queueControl)

/-- STREAM_SET (R15). -/
def execStreamSet (p : Port) (s : State) : Result :=
  .next (s.endEvent (.control 0x25#8) p (checkControl 0x25#8 false readStreamSet) queueControl)

/-- OVERLAY_BEGIN (R124). -/
def execOverlayBegin (p : Port) (s : State) : Result :=
  .next (s.endEvent (.control 0x26#8) p (checkControl 0x26#8 false readOverlayBegin) queueControl)

/-- OVERLAY_ENTRIES (R125). -/
def execOverlayEntries (p : Port) (s : State) : Result :=
  .next (s.endEvent (.control 0x27#8) p (checkControl 0x27#8 false readOverlayEntries) queueControl)

/-- OVERLAY_END (R124). -/
def execOverlayEnd (p : Port) (s : State) : Result :=
  .next (s.endEvent (.control 0x28#8) p (checkControl 0x28#8 false readOverlayEnd) queueControl)

end Sys2Proof.Machine
end

