-- ==== Sys2Proof/Machine/RecordCommands.lean ====
section
/-! DEFINITION. The end events of PRINT, MARK and CLOSE records (R11, R31, R39, R40). -/

namespace Sys2Proof.Machine

/-- A PRINT record's data is its header's (R2). -/
def readPrint (h : Header) : Except Reason (List Byte) := .ok h.data

/-- A PRINT record that has passed the checks (R11, R31). -/
def printRule (p : Port) (h : Header) (data : List Byte) (s : State) : Ruling :=
  if s.holdsPrint p h.stream then .held
  else
    let taken := s.takePrintRecord h.stream h.action data h.sync h.halt
    .taken taken.1 taken.2 []

/-- PRINT (R11). -/
def execPrint (p : Port) (s : State) : Result := .next (s.endEvent .print p readPrint (printRule p))

/-- A MARK record's two data bytes are its mark id (R2); another length has been refused by R7. -/
def readMark (h : Header) : Except Reason Word16 :=
  match h.data with
  | [hi, lo] => .ok (word16 hi lo)
  | _ => .error .length

/-- A MARK record that has passed the checks (R11, R40). -/
def markRule (h : Header) (id : Word16) (s : State) : Ruling :=
  if s.holdsQueued h.stream then .held else .taken (s.takeStillRecord h.stream (.mark id) h.sync h.halt) false []

/-- MARK (R7, R11). -/
def execMark (p : Port) (s : State) : Result := .next (s.endEvent .mark p readMark markRule)

/-- A CLOSE record carries no data (R2). -/
def readClose (_h : Header) : Except Reason Unit := .ok ()

/-- A CLOSE record that has passed the checks (R11, R39). -/
def closeRule (h : Header) (_u : Unit) (s : State) : Ruling :=
  if s.holdsQueued h.stream then .held else .taken (s.takeCloseRecord h.stream h.sync h.halt) false []

/-- CLOSE (R39). -/
def execClose (p : Port) (s : State) : Result := .next (s.endEvent .close p readClose closeRule)

end Sys2Proof.Machine
end

