-- ==== Sys2Proof/Machine/Dispatch.lean ====
section
/-! DEFINITION. One arm per command: its meaning. -/

namespace Sys2Proof.Machine

def exec (i : Instr) (s : State) : Host.Outcome State Fault Refusal :=
  match i with
  | .powerOnReset => Sys2Proof.Machine.execPowerOnReset s
  | .portReset p => Sys2Proof.Machine.execPortReset p s
  | .resetRelease p => Sys2Proof.Machine.execResetRelease p s
  | .frameRise p => Sys2Proof.Machine.execFrameRise p s
  | .answerReturn p n => Sys2Proof.Machine.execAnswerReturn p n s
  | .print p => Sys2Proof.Machine.execPrint p s
  | .mark p => Sys2Proof.Machine.execMark p s
  | .close p => Sys2Proof.Machine.execClose p s
  | .senseDevice p => Sys2Proof.Machine.execSenseDevice p s
  | .senseStream p => Sys2Proof.Machine.execSenseStream p s
  | .senseMark p => Sys2Proof.Machine.execSenseMark p s
  | .streamOpen p => Sys2Proof.Machine.execStreamOpen p s
  | .streamRelease p => Sys2Proof.Machine.execStreamRelease p s
  | .cancel p => Sys2Proof.Machine.execCancel p s
  | .formLoad p => Sys2Proof.Machine.execFormLoad p s
  | .formSelect p => Sys2Proof.Machine.execFormSelect p s
  | .portSet p => Sys2Proof.Machine.execPortSet p s
  | .stop p => Sys2Proof.Machine.execStop p s
  | .resume p => Sys2Proof.Machine.execResume p s
  | .engineSet p => Sys2Proof.Machine.execEngineSet p s
  | .xlateLoad p => Sys2Proof.Machine.execXlateLoad p s
  | .pairLoad p => Sys2Proof.Machine.execPairLoad p s
  | .pairClear p => Sys2Proof.Machine.execPairClear p s
  | .geometryLoad p => Sys2Proof.Machine.execGeometryLoad p s
  | .streamSet p => Sys2Proof.Machine.execStreamSet p s
  | .overlayBegin p => Sys2Proof.Machine.execOverlayBegin p s
  | .overlayEntries p => Sys2Proof.Machine.execOverlayEntries p s
  | .overlayEnd p => Sys2Proof.Machine.execOverlayEnd p s
  | .takePrint => Sys2Proof.Machine.execTakePrint s
  | .takeMark => Sys2Proof.Machine.execTakeMark s
  | .takeClose => Sys2Proof.Machine.execTakeClose s
  | .takeXlateLoad => Sys2Proof.Machine.execTakeXlateLoad s
  | .takePairLoad => Sys2Proof.Machine.execTakePairLoad s
  | .takePairClear => Sys2Proof.Machine.execTakePairClear s
  | .takeGeometryLoad => Sys2Proof.Machine.execTakeGeometryLoad s
  | .takeStreamSet => Sys2Proof.Machine.execTakeStreamSet s
  | .takeOverlayBegin => Sys2Proof.Machine.execTakeOverlayBegin s
  | .takeOverlayEntries => Sys2Proof.Machine.execTakeOverlayEntries s
  | .takeOverlayEnd => Sys2Proof.Machine.execTakeOverlayEnd s
  | .pageAgeExpiry j => Sys2Proof.Machine.execPageAgeExpiry j s
  | .selection => Sys2Proof.Machine.execSelection s
  | .renderingComplete => Sys2Proof.Machine.execRenderingComplete s
  | .sheet => Sys2Proof.Machine.execSheet s
  | .sendComplete => Sys2Proof.Machine.execSendComplete s
  | .ready => Sys2Proof.Machine.execReady s
  | .notReady => Sys2Proof.Machine.execNotReady s
  | .trayEmpty tray => Sys2Proof.Machine.execTrayEmpty tray s
  | .stackerFull stacker => Sys2Proof.Machine.execStackerFull stacker s
  | .stacked tag => Sys2Proof.Machine.execStacked tag s
  | .jam => Sys2Proof.Machine.execJam s
  | .restarted => Sys2Proof.Machine.execRestarted s
  | .unrecognisedReport code => Sys2Proof.Machine.execUnrecognisedReport code s
  | .stackTimeout => Sys2Proof.Machine.execStackTimeout s
  | .panelStart k => Sys2Proof.Machine.execPanelStart k s
  | .panelStop k => Sys2Proof.Machine.execPanelStop k s
  | .purge k => Sys2Proof.Machine.execPurge k s
  | .byteStrobe p b => Sys2Proof.Machine.execByteStrobe p b s
  | .keySample k => Sys2Proof.Machine.execKeySample k s

end Sys2Proof.Machine
end

