-- ==== Sys2Proof/Safety.lean ====
section
/-! DEFINITION. The laws of the 2730: what the spec's prose promises of every state the part can be in, each strengthened to a
property that a step keeps by itself. And the words the statements are written in: a record's bytes as a host sends them (R183),
written from the format tables and not from the gate's readers, and the states a record's answer leaves. -/

namespace Sys2Proof.Machine

/-! ### The spool (R20) -/

/-- "The spool holds at most 2048 records, and no stream's queue holds more records than its quota" (R20); a quota is 16 to
2048 (R12), and an unbound stream's queue is empty (R16: "The stream's queue is empty at a first open"). -/
abbrev State.SpoolLaw (s : State) : Prop :=
  s.spoolUsed ≤ 2048 ∧
  ∀ i : StreamNo, (s.stream i).queue.length ≤ (s.stream i).quota ∧
    16 ≤ (s.stream i).quota ∧ (s.stream i).quota ≤ 2048 ∧
    ((s.stream i).binding = none → (s.stream i).queue = [])

/-! ### The pair tables (R46) -/

/-- "Its entries stand in ascending key order", no two with the same key, and a table of size 128 is full (R46). -/
abbrev State.PairLaw (s : State) : Prop :=
  ∀ k : Fin 2, (s.tables.get k).pairs.Pairwise (fun a b => a.keyBefore b = true) ∧
    (s.tables.get k).pairs.length ≤ 128

/-! ### The cells (R65, R69) -/

/-- "In every cell that has a base glyph the weight is 1, 2 or 3" (R69), and "A cell's over is present only when its base is
present" (R65). -/
abbrev soundInk (base overGlyph : Option Glyph) (weight : Nat) : Prop :=
  (base = none → overGlyph = none) ∧ (base ≠ none → 1 ≤ weight ∧ weight ≤ 3)

/-- Every cell of every OPEN assembly buffer and of every line in the Page Store is sound. -/
abbrev State.CellLaw (s : State) : Prop :=
  (∀ i : StreamNo, ∀ b ∈ (s.stream i).buffer, ∀ c ∈ b.cells.items, soundInk c.base c.overGlyph c.weight) ∧
  ∀ p ∈ s.pages, ∀ l ∈ p.lines, ∀ c ∈ l.cells, soundInk c.base c.overGlyph c.weight

/-! ### The Page Store (R64, R86, R88) -/

/-- A form length (R25). -/
abbrev formLength (n : Nat) : Prop := 12 ≤ n ∧ n ≤ 144

/-- At most 64 page records (R86); lines and reservations together within the 4096 line slots, so that "The unreserved count is
at least 0 at all times" (R88); at most one open page a stream (R64); the pages in the order of opening; and every length a page
can be opened with is a form length (R25), in the Form Table, the queued records and the open buffers. -/
abbrev State.StoreLaw (s : State) : Prop :=
  s.pages.length ≤ 64 ∧
  s.usedSlots + s.reserved ≤ 4096 ∧
  (∀ i : StreamNo, (s.pages.filter fun p => decide (p.stream = i ∧ p.state = .opened)).length ≤ 1) ∧
  s.pages.Pairwise (fun p q => p.serial < q.serial) ∧
  (∀ p ∈ s.pages, p.serial < s.pagesOpened) ∧
  (∀ f : Fin 4, formLength (s.forms.get f).length) ∧
  (∀ i : StreamNo, ∀ r ∈ (s.stream i).queue, formLength r.length) ∧
  ∀ i : StreamNo, ∀ b ∈ (s.stream i).buffer, formLength b.length

/-! ### The engine link and the run state (R154, R184) -/

/-- "The number of outstanding sheets never exceeds the path depth" (R154), which is 1 to 6 (R151). -/
abbrev State.PathLaw (s : State) : Prop :=
  1 ≤ s.settings.pathDepth ∧ s.settings.pathDepth ≤ 6 ∧ s.outstanding ≤ s.settings.pathDepth

/-- A buffer that is SENDING is the head of the offer order (R144: "only the head can send"), and the copy it sends is the
newest outstanding sheet, its data not complete (R144: "the copy it sends is outstanding"). -/
abbrev State.SendingLaw (s : State) : Prop :=
  ∀ b : Fin 2, (s.buffer b).state = .sending →
    s.offer.head? = some b ∧ 1 ≤ s.outstanding ∧ ∃ e, s.ring.get (tagIndex (s.issue - 1)) = some e ∧ e.dataComplete = false

/-- The engine link's law, with "In STOPPED no sheet is outstanding and no raster buffer is SENDING" (R184) as its last part. -/
abbrev State.EngineLaw (s : State) : Prop :=
  s.PathLaw ∧ s.SendingLaw ∧
  (s.run = .stopped → s.outstanding = 0 ∧ ∀ b : Fin 2, (s.buffer b).state ≠ .sending)

/-- In STOPPED no taking is under way (R76: "The run state is STOPPED only where no taking is under way"); STOPPING lasts while a
sheet is outstanding or a taking is under way (R186); and the stream being taken from is bound, with the record at the head of its
queue (R59). -/
abbrev State.RestLaw (s : State) : Prop :=
  (s.run = .stopped → s.taking = none) ∧
  (s.run = .stopping → 1 ≤ s.outstanding ∨ s.taking ≠ none) ∧
  ∀ i : StreamNo, s.taking = some (.granted i) → (s.stream i).binding ≠ none ∧ (s.stream i).queue ≠ []

/-! ### A record as the host sends it (R183) -/

/-- The bytes of a record: header byte 0 class and stream, byte 1 the carriage byte, byte 2 SYNC and HALT, byte 3 the data
length, then the data (R183, record header). -/
def recordBytes (cls : Nat) (i : StreamNo) (carriage : Byte) (sync halt : Bool) (data : List Byte) : List Byte :=
  [BitVec.ofNat 8 (16 * cls + i.val), carriage, BitVec.ofNat 8 (128 * sync.toNat + 64 * halt.toNat),
    BitVec.ofNat 8 data.length] ++ data

/-- The port holds exactly these bytes of a record whose FRAME is still up, and the record did not run long (R170). -/
abbrev State.Received (s : State) (p : Port) (bytes : List Byte) : Prop :=
  (s.port p).reception = .receiving ∧ (s.port p).bytes = bytes ∧ (s.port p).ranLong = false

/-- The carriage byte `b` carries the action `a` (R183: kind in bits 7 to 4, number in bits 3 to 0, "not read for NONE"). -/
abbrev CarriageByte (b : Byte) : Action → Prop
  | .none => b.toNat / 16 = 0
  | .space n => b.toNat = 16 + n ∧ 1 ≤ n ∧ n ≤ 3
  | .skip c => b.toNat = 32 + c ∧ 1 ≤ c ∧ c ≤ 7

/-- The end-event commands of a port with the class (R183) of the record each ends. -/
def recordCommands (p : Port) : List (Nat × Instr) :=
  [(1, .print p), (3, .mark p), (4, .close p), (2, .senseDevice p), (2, .senseStream p), (2, .senseMark p),
    (2, .streamOpen p), (2, .streamRelease p), (2, .cancel p), (2, .formLoad p), (2, .formSelect p), (2, .portSet p),
    (2, .stop p), (2, .resume p), (2, .engineSet p), (2, .xlateLoad p), (2, .pairLoad p), (2, .pairClear p),
    (2, .geometryLoad p), (2, .streamSet p), (2, .overlayBegin p), (2, .overlayEntries p), (2, .overlayEnd p)]

/-- The control commands of a port with their control codes, immediate (`true`) or queued (R174). -/
def controlCommands (p : Port) : List (Nat × Bool × Instr) :=
  [(0x01, true, .senseDevice p), (0x01, true, .senseStream p), (0x01, true, .senseMark p), (0x02, true, .streamOpen p),
    (0x03, true, .streamRelease p), (0x04, true, .cancel p), (0x05, true, .formLoad p), (0x06, true, .formSelect p),
    (0x07, true, .portSet p), (0x08, true, .stop p), (0x09, true, .resume p), (0x0A, true, .engineSet p),
    (0x21, false, .xlateLoad p), (0x22, false, .pairLoad p), (0x23, false, .pairClear p), (0x24, false, .geometryLoad p),
    (0x25, false, .streamSet p), (0x26, false, .overlayBegin p), (0x27, false, .overlayEntries p),
    (0x28, false, .overlayEnd p)]

/-- A CONTROL record whole in its port, on a stream bound to that port, carrying no carriage action (R6, R7). -/
abbrev State.ControlReceived (s : State) (p : Port) (i : StreamNo) (carriage : Byte) (sync halt : Bool) (data : List Byte) :
    Prop :=
  (s.stream i).binding = some p ∧ carriage.toNat / 16 = 0 ∧ data.length ≤ 255 ∧
    s.Received p (recordBytes 2 i carriage sync halt data)

/-! ### The operands of a control record (R8, R183), read by their place in the data -/

/-- The byte at place `n` of a control's data, the control code standing at place 0. -/
def byteAt (d : List Byte) (n : Nat) : Nat := (d[n]?.getD 0).toNat

/-- The two-byte field at places `n` and `n + 1`. -/
def wordAt (d : List Byte) (n : Nat) : Nat := 256 * byteAt d n + byteAt d (n + 1)

/-- The data length a control code requires (R8 part 3); `none` where the data is too short to hold the count it depends on. SENSE
(01h) is not among them. -/
def requiredLength (code : Nat) (d : List Byte) : Option Nat :=
  match code with
  | 0x02 => some 9
  | 0x03 => some 1
  | 0x04 => some 1
  | 0x05 => d[5]?.map fun k => 6 + 2 * k.toNat
  | 0x06 => some 3
  | 0x07 => some 2
  | 0x08 => some 1
  | 0x09 => some 1
  | 0x0A => some 13
  | 0x21 => d[3]?.map fun k => 4 + 3 * k.toNat
  | 0x22 => d[2]?.map fun k => 3 + 5 * k.toNat
  | 0x23 => some 2
  | 0x24 => some 10
  | 0x25 => some 8
  | 0x26 => some 4
  | 0x27 => d[1]?.map fun k => 2 + 12 * k.toNat
  | 0x28 => some 1
  | _ => none

/-- The stop entry whose two bytes begin at place `e` (R27, R183). -/
def stopAt (d : List Byte) (e : Nat) : StopEntry := { line := byteAt d e, classes := BitVec.ofNat 8 (byteAt d (e + 1)) }

/-- The translate entry whose three bytes begin at place `e` is in range (R50). -/
abbrev XlateInRange (d : List Byte) (e : Nat) : Prop :=
  byteAt d e / 16 ≤ 3 ∧ (byteAt d e / 16 = 3 → wordAt d (e + 1) ≤ 383)

/-- The translate entry whose three bytes begin at place `e` (R50, R183). -/
def xlateAt (d : List Byte) (e : Nat) : XlateEntry :=
  if byteAt d e / 16 = 0 then .void
  else if byteAt d e / 16 = 1 then .space
  else if byteAt d e / 16 = 2 then .underscore
  else
    .glyph (Fin.ofNat 384 (wordAt d (e + 1)))
      (if byteAt d e % 16 = 0 then none else some (Fin.ofNat 16 (byteAt d e)))

/-- The pair entry whose five bytes begin at place `e` is in range (R52). -/
abbrev PairInRange (d : List Byte) (e : Nat) : Prop :=
  wordAt d e ≤ 383 ∧ 1 ≤ byteAt d (e + 2) ∧ byteAt d (e + 2) ≤ 15 ∧ wordAt d (e + 3) ≤ 383

/-- The pair entry whose five bytes begin at place `e` (R52, R183). -/
def pairAt (d : List Byte) (e : Nat) : PairEntry where
  glyph := Fin.ofNat 384 (wordAt d e)
  mark := Fin.ofNat 16 (byteAt d (e + 2))
  composite := Fin.ofNat 384 (wordAt d (e + 3))

/-- The overlay entry whose twelve bytes begin at place `e` is in range (R125): rules of 1 to 5100 by 1 to 64, bands of 1 to 5100
by 1 to 5100 with a density. -/
abbrev OverlayInRange (d : List Byte) (e : Nat) : Prop :=
  wordAt d (e + 1) ≤ 5099 ∧ wordAt d (e + 3) ≤ 5099 ∧ 1 ≤ byteAt d (e + 9) ∧ wordAt d (e + 10) ≤ 5100 ∧
  1 ≤ wordAt d (e + 5) ∧ wordAt d (e + 5) ≤ 5100 ∧ 1 ≤ wordAt d (e + 7) ∧
  (((byteAt d e / 16 = 1 ∨ byteAt d e / 16 = 2) ∧ wordAt d (e + 7) ≤ 64) ∨
    (byteAt d e / 16 = 3 ∧ wordAt d (e + 7) ≤ 5100 ∧ (byteAt d e % 16 = 1 ∨ byteAt d e % 16 = 2)))

/-- The overlay entry whose twelve bytes begin at place `e` (R125, R183). -/
def overlayAt (d : List Byte) (e : Nat) : OverlayEntry where
  shape :=
    if byteAt d e / 16 = 1 then .hrule (wordAt d (e + 5)) (wordAt d (e + 7))
    else if byteAt d e / 16 = 2 then .vrule (wordAt d (e + 5)) (wordAt d (e + 7))
    else .band (wordAt d (e + 5)) (wordAt d (e + 7)) (if byteAt d e % 16 = 1 then .quarter else .half)
  x := wordAt d (e + 1)
  y := wordAt d (e + 3)
  repeatCount := byteAt d (e + 9)
  step := wordAt d (e + 10)

/-- The operands of a control that do not clamp are within their ranges (R8 part 4 and the rule of each control). -/
def OperandsInRange (code : Nat) (d : List Byte) : Prop :=
  match code with
  | 0x05 =>
    byteAt d 1 ≤ 3 ∧ 12 ≤ byteAt d 2 ∧ byteAt d 2 ≤ 144 ∧ (byteAt d 3 = 6 ∨ byteAt d 3 = 8) ∧ 1 ≤ byteAt d 4 ∧
      byteAt d 4 ≤ byteAt d 2 ∧ byteAt d 5 ≤ 32 ∧
      ∀ j < byteAt d 5, 1 ≤ byteAt d (6 + 2 * j) ∧ byteAt d (6 + 2 * j) ≤ byteAt d 2 ∧ byteAt d (7 + 2 * j) ≠ 0 ∧
        byteAt d (7 + 2 * j) % 2 = 0 ∧ ∀ k < j, byteAt d (6 + 2 * k) < byteAt d (6 + 2 * j)
  | 0x06 => byteAt d 1 ≤ 3 ∧ 1 ≤ byteAt d 2 ∧ byteAt d 2 ≤ 160
  | 0x07 => byteAt d 1 ≤ 1
  | 0x0A => byteAt d 11 ≤ 1 ∧ byteAt d 12 ≤ 1
  | 0x21 =>
    byteAt d 1 ≤ 1 ∧ 1 ≤ byteAt d 3 ∧ byteAt d 3 ≤ 60 ∧ byteAt d 2 + byteAt d 3 ≤ 256 ∧
      ∀ j < byteAt d 3, XlateInRange d (4 + 3 * j)
  | 0x22 => byteAt d 1 ≤ 1 ∧ 1 ≤ byteAt d 2 ∧ byteAt d 2 ≤ 40 ∧ ∀ j < byteAt d 2, PairInRange d (3 + 5 * j)
  | 0x23 => byteAt d 1 ≤ 1
  | 0x24 =>
    byteAt d 1 ≤ 7 ∧ wordAt d 2 ≤ 3299 ∧ wordAt d 4 ≤ 5099 ∧ 1 ≤ wordAt d 6 ∧ wordAt d 6 ≤ 3300 ∧ 1 ≤ wordAt d 8 ∧
      wordAt d 8 ≤ 5100
  | 0x25 =>
    byteAt d 1 ≤ 1 ∧ byteAt d 2 ≤ 7 ∧ (byteAt d 3 ≤ 7 ∨ byteAt d 3 = 255) ∧ (byteAt d 4 = 1 ∨ byteAt d 4 = 2) ∧
      (byteAt d 5 = 1 ∨ byteAt d 5 = 2) ∧ byteAt d 7 ≤ 1
  | 0x26 => byteAt d 1 ≤ 7 ∧ 1 ≤ wordAt d 2 ∧ wordAt d 2 ≤ 256
  | 0x27 => 1 ≤ byteAt d 1 ∧ byteAt d 1 ≤ 16 ∧ ∀ j < byteAt d 1, OverlayInRange d (2 + 12 * j)
  | _ => True

/-- What a queued control in range asks for (R15, R50, R52, R54, R109, R124, R125). -/
def queuedBody (code : Nat) (d : List Byte) : Body :=
  match code with
  | 0x21 => .xlateLoad (Fin.ofNat 2 (byteAt d 1)) (byteAt d 2) ((List.range (byteAt d 3)).map fun j => xlateAt d (4 + 3 * j))
  | 0x22 => .pairLoad (Fin.ofNat 2 (byteAt d 1)) ((List.range (byteAt d 2)).map fun j => pairAt d (3 + 5 * j))
  | 0x23 => .pairClear (Fin.ofNat 2 (byteAt d 1))
  | 0x24 => .geometryLoad (Fin.ofNat 8 (byteAt d 1)) ⟨wordAt d 2, wordAt d 4, wordAt d 6, wordAt d 8⟩
  | 0x25 =>
    .streamSet
      { tableSet := Fin.ofNat 2 (byteAt d 1), geometry := Fin.ofNat 8 (byteAt d 2),
        overlay := if byteAt d 3 = 255 then none else some (Fin.ofNat 8 (byteAt d 3)),
        tray := if byteAt d 4 = 1 then .one else .two, stacker := if byteAt d 5 = 1 then .one else .two,
        copies := max 1 (min (byteAt d 6) 9), blankForms := if byteAt d 7 = 0 then .discard else .print }
  | 0x26 => .overlayBegin (Fin.ofNat 8 (byteAt d 1)) (wordAt d 2)
  | 0x27 => .overlayEntries ((List.range (byteAt d 1)).map fun j => overlayAt d (2 + 12 * j))
  | _ => .overlayEnd

/-- The form record a FORM LOAD in range carries (R25, R27). -/
def formAt (d : List Byte) : Form where
  length := byteAt d 2
  pitch := if byteAt d 3 = 6 then .six else .eight
  overflowLine := byteAt d 4
  stops := (List.range (byteAt d 5)).map fun j => stopAt d (6 + 2 * j)

/-- The settings an ENGINE SET carries, its numbers brought into range (R152). -/
def settingsAt (d : List Byte) : EngineSettings where
  pathDepth := max 1 (min (byteAt d 1) 6)
  stackTimeout := max 1 (min (byteAt d 2) 60)
  tray1 := ⟨max 1200 (min (wordAt d 3) 3300), max 1500 (min (wordAt d 5) 5100)⟩
  tray2 := ⟨max 1200 (min (wordAt d 7) 3300), max 1500 (min (wordAt d 9) 5100)⟩
  bitOrder := if byteAt d 11 = 0 then .leftmostInMsb else .leftmostInLsb
  polarity := if byteAt d 12 = 0 then .blackAsOne else .blackAsZero

/-- A stream record with the five settings a STREAM OPEN carries, brought into range (R16, R183: enable `k` of the mask is bit
`23 - k` of its three bytes). -/
def Stream.withOpenOperands (t : Stream) (d : List Byte) : Stream :=
  { t with
    quota := max 16 (min (wordAt d 1) 2048)
    composerPriority := Fin.ofNat 4 (min (byteAt d 3) 3)
    imagingPriority := Fin.ofNat 4 (min (byteAt d 4) 3)
    pageAgeLimit := byteAt d 5
    eventMask := .ofFn fun k => (65536 * byteAt d 6 + wordAt d 7).testBit (23 - k.val) }

/-! ### The gate's header checks -/

/-- The SENSE commands of a port with their selectors (R175). -/
def senseCommands (p : Port) : List (Nat × Instr) := [(1, .senseDevice p), (2, .senseStream p), (3, .senseMark p)]

/-- A record with the first header byte `b0` and this data may be the one the command ends (log entry 1): its class is undefined, or
the command's own, and then, for a CONTROL record, its code and a SENSE's selector are missing, unknown or the command's own. -/
def MayEnd (p : Port) (c : Instr) (b0 : Byte) (data : List Byte) : Prop :=
  b0.toNat / 16 = 0 ∨ 4 < b0.toNat / 16 ∨
  (b0.toNat / 16, c) ∈ recordCommands p ∧
    (b0.toNat / 16 = 2 → ∀ code ∈ data.head?,
      ¬(0x01 ≤ code.toNat ∧ code.toNat ≤ 0x0A ∨ 0x21 ≤ code.toNat ∧ code.toNat ≤ 0x28) ∨
      (code.toNat, c) ∈ (controlCommands p).map (fun e => (e.1, e.2.2)) ∧
        (code.toNat = 1 → ∀ k ∈ data[1]?, k.toNat = 0 ∨ 3 < k.toNat ∨ (k.toNat, c) ∈ senseCommands p))

/-- The refusal the checks of steps 1 to 5 of R4 decide of a record with a whole header, in their order (R5, R6, R7); `none` where it
passes them. A SKIP number above 7 is CARRIAGE INVALID (log entry 11). -/
def headerRefusal (s : State) (p : Port) (b0 carriage flags n : Byte) (data : List Byte) (ranLong : Bool) : Option Reason :=
  let cls := b0.toNat / 16
  if data.length < n.toNat then some .shortRecord
  else if ranLong then some .length
  else if h : 8 ≤ b0.toNat % 16 then some .classInvalid
  else if cls = 0 ∨ 4 < cls then some .classInvalid
  else if flags.toNat % 64 ≠ 0 then some .classInvalid
  else
    let binding := (s.stream ⟨b0.toNat % 16, by omega⟩).binding
    if binding = none ∧ ¬(cls = 2 ∧ data.head? = some 0x02#8) then some .streamNotOpen
    else if binding ≠ none ∧ binding ≠ some p then some .streamBusy
    else if cls = 3 ∧ data.length ≠ 2 then some .length
    else if cls = 4 ∧ data.length ≠ 0 then some .length
    else if carriage.toNat / 16 = 0 then none
    else if cls = 1 ∧ (17 ≤ carriage.toNat ∧ carriage.toNat ≤ 19 ∨ 33 ≤ carriage.toNat ∧ carriage.toNat ≤ 39) then none
    else some .carriageInvalid

/-! ### The states an answer leaves (R4, R10, R11) -/

/-- A record is answered REFUSED: FRAME is down, the reason is counted on the stream given, if any (R10), and the port answers. -/
def State.answeredRefused (s : State) (p : Port) (counted : Option StreamNo) (r : Reason) : State :=
  let low := s.updPort p fun q => { q with frame := false }
  match counted with
  | some i => (low.countCond i r.cond).answer p (.refused r) false []
  | none => low.answer p (.refused r) false []

/-- A record is answered HELD: FRAME is down and the port answers; nothing else has changed (R11). -/
def State.answeredHeld (s : State) (p : Port) : State :=
  (s.updPort p fun q => { q with frame := false }).answer p .held false []

/-- A record is answered TAKEN (R11): FRAME is down, `act` has been done, the stream's records-taken counter has advanced, and the
port answers. -/
def State.answeredTaken (s : State) (p : Port) (i : StreamNo) (act : State → State) (overflow : Bool) (frames : List Byte) :
    State :=
  ((act (s.updPort p fun q => { q with frame := false })).updStream i
    fun t => { t with recordsTaken := t.recordsTaken + 1 }).answer p .taken overflow frames

/-- The three grounds on which any queued record is HELD (R11, R21): the run state, the quota, the pool. -/
abbrev State.QueueHolds (s : State) (i : StreamNo) : Prop :=
  s.run ≠ .run ∨ (s.stream i).quota ≤ (s.stream i).queue.length ∨ 2048 ≤ s.spoolUsed

/-- A record stamped at the stream's present position (R31 step 1, R3), with its carriage action as received; it advances where that is
SPACE or SKIP. -/
abbrev State.stamped (s : State) (i : StreamNo) (body : Body) (action : Action) (sync halt : Bool) : Resolved :=
  let c := (s.stream i).carriage
  let f := s.forms.get c.form
  { body := body, action := action, sync := sync, halt := halt, sequence := c.sequence, line := c.line, length := f.length
    pitch := f.pitch, width := c.width, advance := decide (action ≠ .none) }

/-- A queued record that moves no carriage (R40): HELD on one of the three grounds, or else TAKEN with the record at the tail of
its stream's queue. -/
def State.queuedOutcome (s : State) (p : Port) (i : StreamNo) (body : Body) (sync halt : Bool) : State :=
  if s.QueueHolds i then s.answeredHeld p
  else
    s.answeredTaken p i
      (fun u => u.updStream i fun t => { t with queue := t.queue ++ [s.stamped i body .none sync halt] }) false []

/-! ### A grant and its taking (R59, R63) -/

/-- The composer command of a record's kind. -/
def takeCommand : Body → Instr
  | .print _ => .takePrint
  | .mark _ => .takeMark
  | .close => .takeClose
  | .xlateLoad _ _ _ => .takeXlateLoad
  | .pairLoad _ _ => .takePairLoad
  | .pairClear _ => .takePairClear
  | .geometryLoad _ _ => .takeGeometryLoad
  | .streamSet _ => .takeStreamSet
  | .overlayBegin _ _ => .takeOverlayBegin
  | .overlayEntries _ => .takeOverlayEntries
  | .overlayEnd => .takeOverlayEnd

/-- The eleven composer commands. -/
def composerCommands : List Instr :=
  [.takePrint, .takeMark, .takeClose, .takeXlateLoad, .takePairLoad, .takePairClear, .takeGeometryLoad, .takeStreamSet,
    .takeOverlayBegin, .takeOverlayEntries, .takeOverlayEnd]

/-- The lines the taking of a head record puts to the space test (R63 step 1, R75): the buffer's line where the taking emits it. -/
def State.takingLines (s : State) (i : StreamNo) (r : Resolved) : List ComposedLine :=
  match r.body with
  | .print data => if r.advance ∨ r.sync then (s.struck i r data).composed.toList else []
  | .mark _ => if r.sync then s.bufferLine i else []
  | _ => s.bufferLine i

/-- The grant of the head record `r` of stream `i`, its taking under way or about to be (log entry 14), with its space test
passed (R63 step 1). -/
abbrev State.Granted (s : State) (i : StreamNo) (r : Resolved) : Prop :=
  s.grant = some (i, r) ∧ (s.beginGrant i).spaceTest i (s.takingLines i r) = true

/-- A taking is over, and with it STOPPING where no sheet is outstanding (R186): the run state becomes STOPPED, its cause kept, and the
run-state cause joins both ports' sets. -/
def State.takingEnds (s : State) : State :=
  if s.run = .stopping ∧ s.outstanding = 0 then
    { s with taking := none, run := .stopped, ports := s.ports.map fun q => { q with causes := { q.causes with run := true } } }
  else { s with taking := none }

/-- The end of a taking (R63 steps 6 and 7, R75, R76): the record leaves its queue; SYNC emits the buffer and acts at the Page
Store; HALT makes a stop request with the taking finished; and the taking is over. -/
def State.finished (s : State) (i : StreamNo) (r : Resolved) : State :=
  let off := s.updStream i fun t => { t with queue := t.queue.tail }
  let synced := if r.sync then (off.emit i).syncPages i else off
  (if r.halt then ({ synced with taking := none } : State).stopRequest .halt else synced).takingEnds

/-- A grant that ends in a wait (R59, R63): the stream waits, and the taking is over. -/
def State.waits (s : State) (i : StreamNo) (w : Wait) : State := (s.updStream i fun t => { t with wait := w }).takingEnds

/-- The taking under way once the queues of the streams that are gone have been discarded (R19): its record goes with its queue. -/
def State.takingWithout (s : State) (gone : StreamNo → Bool) : Option UnderWay :=
  match s.taking with
  | some (.granted i) =>
    match gone i, (s.stream i).queue with
    | true, r :: _ => some (.discarded r.body)
    | _, _ => some (.granted i)
  | t => t

end Sys2Proof.Machine
end

