-- ==== Sys2Proof/Certificates/Slice0/Obligations.lean ====
section
/-! DEFINITION. The statements for the provers. A statement that rests on a choice of the model names its log entry. -/

open Sys2Proof Sys2Proof.Machine

/-! ### One step and the resets -/

/-- One step runs the command at the front of the queue on the state with the queue's rest. On an empty queue (the model's choice of
the moment: log entry 12) the composer makes the grant it has to make, which puts its taking under way and changes nothing else (R59);
and the block idles where a taking is under way or there is none to grant. -/
def Obligations.StepRunsTheFrontCommand : Prop :=
  (∀ (c : Instr) (rest : List Instr) (s : State),
    step { s with pending := c :: rest } = exec c { s with pending := rest }) ∧
  ∀ s : State, s.pending = [] →
    (∀ (i : StreamNo) (r : Resolved), s.taking = none → s.grant = some (i, r) →
      step s = .next { s with taking := some (.granted i) }) ∧
    (s.taking ≠ none ∨ s.grant = none → step s = .next s)

/-- Every command completes from every state, whatever its operands, and no command touches the queue of the commands that wait:
the model has no fault and no refusal (log entry 3). POWER_ON_RESET too keeps that queue (log entry 21). -/
def Obligations.EveryCommandCompletes : Prop :=
  ∀ (c : Instr) (s : State), ∃ t, exec c s = .next t ∧ t.pending = s.pending

/-- Power-on reset gives every block its power-on values (R192 and the rules it names), whatever the state before. It keeps the
commands that wait (log entry 21). -/
def Obligations.PowerOnResetsTheWholePart : Prop :=
  ∀ s : State, ∃ t, exec .powerOnReset s = .next t ∧ t.pending = s.pending ∧
    (∀ i : StreamNo, t.stream i =
      { binding := none, quota := 2048, composerPriority := 2, imagingPriority := 2, pageAgeLimit := 0
        eventMask := .replicate 21 true
        carriage := { form := 0, width := 132, pending := none, line := 1, sequence := 1, started := false }
        attributes := { tableSet := 0, geometry := 0, overlay := none, tray := .one, stacker := .one, copies := 1,
                        blankForms := .discard }
        wait := .none, counts := .replicate 21 0, recordsTaken := 0, linesComposed := 0, pagesStacked := 0, syncsCompleted := 0
        marksDelivered := 0, queue := [], buffer := none, pageAge := .stopped, fenceClaim := none, pageCounter := 1
        lastLined := none, blankFormsCounter := 0 }) ∧
    t.spoolFree = 2048 ∧
    (∀ f : Fin 4, t.forms.get f = { length := 66, pitch := .six, overflowLine := 63, stops := [⟨1, 0x02#8⟩, ⟨63, 0x80#8⟩] }) ∧
    (∀ k : Fin 2, (t.tables.get k).pairs = [] ∧
      ∀ b : Byte, (t.tables.get k).xlate.get ⟨b.toNat, b.isLt⟩ =
        if b.toNat = 0x20 then .space
        else if h : 0x21 ≤ b.toNat ∧ b.toNat ≤ 0x5E then .glyph ⟨b.toNat, by omega⟩ none
        else if b.toNat = 0x5F then .underscore
        else if h : 0x61 ≤ b.toNat ∧ b.toNat ≤ 0x7A then .glyph ⟨b.toNat - 32, by omega⟩ none
        else .void) ∧
    t.composerPointer = 7 ∧ t.taking = none ∧
    t.pages = [] ∧ t.freeRecords = 64 ∧ t.freeSlots = 4096 ∧
    (∀ k : Fin 8, t.geometry.get k = ⟨75, 75, 2400, 3150⟩) ∧
    (∀ k : Fin 8, t.slot k = { state := .empty, entries := [], declared := 1 } ∧ t.pinCount k = 0) ∧
    (∀ b : Fin 2, (t.buffer b).state = .free ∧ (t.buffer b).page = none) ∧ t.offer = [] ∧ t.imagerPointer = 7 ∧
    t.settings = { pathDepth := 4, stackTimeout := 20, tray1 := ⟨2550, 3300⟩, tray2 := ⟨3300, 5100⟩,
                   bitOrder := .leftmostInMsb, polarity := .blackAsOne } ∧
    t.engineReady = false ∧ t.issue = 0 ∧ t.confirm = 0 ∧ (∀ k : Fin 16, t.ring.get k = none) ∧ t.stackTimer = none ∧
    t.recovery = [] ∧ t.sheetsStacked = 0 ∧
    (∀ p : Port, (t.port p).reception = .idle ∧ (t.port p).causes = Causes.empty ∧ t.attention p = false ∧
      (∀ d : Fin 7, (t.port p).deviceSet.get d = false) ∧ (t.port p).capture = none ∧ (t.port p).renewed = false ∧
      (t.port p).hold = false) ∧
    t.run = .stopped ∧ t.cause = .panel ∧
    t.keys = ⟨⟨true, true⟩, ⟨true, true⟩, ⟨true, true⟩⟩

/-! ### The ports' lines and bytes -/

/-- FRAME_RISE, BYTE_STROBE, ANSWER_RETURN and RESET_RELEASE in every reception state (R170, R171, R182); each changes its own port
alone. What the host has seen of the port is kept beside it (log entry 5); an ANSWER_RETURN carries its number of acknowledges (log
entry 17). -/
def Obligations.PortLinesAndBytes : Prop :=
  ∀ (s : State) (p : Port),
    exec (.frameRise p) s = .next (s.updPort p fun q =>
      if q.frame = false ∧ q.reception = .idle ∧ q.reset = false then
        { q with frame := true, reception := .receiving, count := 0, bytes := [], ranLong := false }
      else { q with frame := true }) ∧
    (∀ b : Byte,
      ((s.port p).reception ≠ .receiving →
        exec (.byteStrobe p b) s = .next (s.updPort p fun q => { q with acknowledged := false })) ∧
      ((s.port p).reception = .receiving → (s.port p).bytes.length < 4 →
        exec (.byteStrobe p b) s
          = .next (s.updPort p fun q => { q with acknowledged := true, count := q.count + 1, bytes := q.bytes ++ [b] })) ∧
      ∀ (h0 h1 h2 n : Byte) (data : List Byte), (s.port p).reception = .receiving →
        (s.port p).bytes = h0 :: h1 :: h2 :: n :: data →
        exec (.byteStrobe p b) s
          = .next (s.updPort p fun q =>
              if data.length < n.toNat then { q with acknowledged := true, count := q.count + 1, bytes := q.bytes ++ [b] }
              else { q with acknowledged := true, count := q.count + 1, ranLong := true })) ∧
    (∀ n : Nat,
      ((s.port p).reception ≠ .answering → exec (.answerReturn p n) s = .next s) ∧
      ((s.port p).reception = .answering →
        exec (.answerReturn p n) s = .next (s.updPort p fun q =>
          if n < q.answer.length then { q with answer := q.answer.drop n, returned := q.returned ++ q.answer.take n }
          else if q.frame = false then { q with reception := .idle, answer := [], returned := q.returned ++ q.answer }
          else { q with reception := .receiving, count := 0, bytes := [], ranLong := false, answer := [],
                        returned := q.returned ++ q.answer }))) ∧
    exec (.resetRelease p) s = .next (s.updPort p fun q =>
      if q.reset = true ∧ q.frame = true ∧ q.reception = .idle then
        { q with reset := false, reception := .receiving, count := 0, bytes := [], ranLong := false }
      else { q with reset := false })

/-- A PORT RESET (R182, R193): the port drops its record or answer and empties its causes, capture, device set and hold, each stream bound
to it is cancelled and unbound (R24, R103, R134), the other port keeps everything, and a stream not bound to it keeps all but a STORE
wait, which ends where a page was discarded (R83, log entry 16), a PIN wait whose pin count reached 0 (R128), and a FENCE wait that a
discarded buffer held and no other stream's buffer holds now (R82). The tables, the engine link, the buffers and the run state are not
changed. A record of theirs being taken is discarded with its queue (R19; log entry 14). The port's count and kept bytes go with the
record (log entry 22). A line already high does not rise (log entry 18). -/
def Obligations.PortResetActsOnThePortAndItsStreams : Prop :=
  ∀ (s : State) (p : Port),
    let gone := fun q : Page => decide ((s.stream q.stream).binding = some p ∧ (q.state = .opened ∨ q.state = .closed))
    ((s.port p).reset = true → exec (.portReset p) s = .next s) ∧
    ((s.port p).reset = false → ∃ t, exec (.portReset p) s = .next t ∧
      t.port p = { s.port p with
        reset := true, reception := .idle, count := 0, bytes := [], ranLong := false, answer := [], causes := Causes.empty,
        deviceSet := .replicate 7 false, hold := false, capture := none, renewed := false } ∧
      (∀ q : Port, q ≠ p → t.port q = s.port q) ∧
      (∀ i : StreamNo, (s.stream i).binding = some p →
        t.stream i = { s.stream i with
          binding := none, queue := [], buffer := none, pageAge := .stopped, fenceClaim := none, wait := .none, lastLined := none
          carriage := { form := 0, width := 132, pending := none, line := 1, sequence := 1, started := false } }) ∧
      (∀ j : StreamNo, (s.stream j).binding ≠ some p →
        { t.stream j with wait := .none } = { s.stream j with wait := .none } ∧
        (t.stream j).wait =
          match (s.stream j).wait with
          | .store => if s.pages.any gone then .none else .store
          | .pin k => if s.pages.any gone ∧ t.pinCount k = 0 then .none else .pin k
          | .fence k =>
            if (∃ i : StreamNo, (s.stream i).binding = some p ∧ ∃ b ∈ (s.stream i).buffer, b.tableSet = k) ∧
              (∀ m : StreamNo, m ≠ j → ∀ b ∈ (t.stream m).buffer, b.tableSet ≠ k) then .none else .fence k
          | w => w) ∧
      t.pages = (s.pages.filter fun q => !gone q).map
        (fun q => if (s.stream q.stream).binding = some p then { q with syncPoint := false } else q) ∧
      t.recovery = (s.recovery.filter fun r => !s.pages.any fun q => gone q && decide (q.ref = r)) ∧
      (∀ k : Fin 8, t.slot k =
        if ∃ i : StreamNo, (s.stream i).binding = some p ∧ s.openLoad i = some k then { s.slot k with state := .empty }
        else s.slot k) ∧
      t.taking = s.takingWithout (fun i => decide ((s.stream i).binding = some p)) ∧
      t = { s with
        ports := t.ports, streams := t.streams, taking := t.taking, pages := t.pages, overlays := t.overlays,
        recovery := t.recovery })

/-! ### Ending status, conditions and the gate's refusals -/

/-- The answer a port returns (R171, R172, R183): the sense frames, the ending status byte, and for a REFUSED record its reason. The
port keeps the record's bytes and count no longer (log entry 22), and none of the answer has been returned (log entry 5). ATTENTION is the
port's flag, up exactly while its cause set is not empty (R179). -/
def Obligations.EndingStatusIsFormed : Prop :=
  (∀ (s : State) (p : Port), s.attention p = true ↔
    (s.port p).causes.mark = true ∨ (s.port p).causes.device = true ∨ (s.port p).causes.run = true ∨
      ∃ i : StreamNo, (s.port p).causes.streams.get i = true) ∧
  ∀ (s : State) (p : Port) (overflow : Bool) (frames : List Byte) (a : Answer),
    let code : Nat := match a with | .taken => 1 | .held => 2 | .refused _ => 3
    let reason : List Byte := match a with
      | .refused .classInvalid => [1] | .refused .streamNotOpen => [2] | .refused .streamBusy => [3] | .refused .length => [4]
      | .refused .shortRecord => [5] | .refused .carriageInvalid => [6] | .refused .formInUse => [7]
      | .refused .controlInvalid => [8] | .refused .operandRange => [9] | .refused .streamActive => [10]
      | .refused .notStopped => [11] | _ => []
    s.answer p a overflow frames = s.updPort p fun q => { q with
      reception := .answering, count := 0, bytes := [], ranLong := false, returned := [],
      answer := frames ++ [BitVec.ofNat 8 (64 * code + 32 * overflow.toNat + 16 * (s.attention p).toNat
        + 8 * (decide (s.run ≠ .run)).toNat)] ++ reason }

/-- A stream condition is counted (R13): the count of its kind rises by 1 and stops at 255, whether or not its kind is enabled; the
stream's cause joins the set of the port it is bound to exactly where the kind is enabled; nothing else changes. The 21 kinds have their
counts and enables in the table order of R13 (R183), and each refusal reason is counted as the kind of its own name (R10). -/
def Obligations.StreamConditionIsCounted : Prop :=
  let place : Cond → Fin 21 := fun
    | .classInvalid => 0 | .streamNotOpen => 1 | .streamBusy => 2 | .length => 3 | .shortRecord => 4 | .carriageInvalid => 5
    | .truncated => 6 | .skipUnresolved => 7 | .formInUse => 8 | .controlInvalid => 9 | .operandRange => 10
    | .streamActive => 11 | .notStopped => 12 | .voidCode => 13 | .collision => 14 | .tableFull => 15 | .markOverrun => 16
    | .syncDone => 17 | .overlaySequence => 18 | .overlayIncomplete => 19 | .clipped => 20
  (∀ (s : State) (i : StreamNo) (k : Cond),
    let counted := s.updStream i fun t =>
      { t with counts := t.counts.set (place k) (min 255 (t.counts.get (place k) + 1)) }
    (s.countCond i k =
      match (s.stream i).binding with
      | none => counted
      | some p =>
        if (s.stream i).eventMask.get (place k) = true then
          counted.updPort p fun q => { q with causes := { q.causes with streams := q.causes.streams.set i true } }
        else counted) ∧
    ∀ found : Bool, s.countIf found i k = if found = true then s.countCond i k else s) ∧
  ∀ r : Reason, r.cond =
    match r with
    | .classInvalid => .classInvalid | .streamNotOpen => .streamNotOpen | .streamBusy => .streamBusy | .length => .length
    | .shortRecord => .shortRecord | .carriageInvalid => .carriageInvalid | .formInUse => .formInUse
    | .controlInvalid => .controlInvalid | .operandRange => .operandRange | .streamActive => .streamActive
    | .notStopped => .notStopped

/-- A FRAME that falls with no record in reception ends none; a record of any class whose header is not whole is REFUSED SHORT RECORD,
counted on no stream (R5, R170). A record of any class, defined or not, with a whole header that fails a check of steps 1 to 5 of R4
(R5, R6, R7; SKIP 8 to 15: log entry 11) is REFUSED with the reason of the first check it fails, is counted as R10 states, and changes
nothing else. A record whose class is undefined may be any row's (log entry 1). -/
def Obligations.HeaderChecksRefuseInOrder : Prop :=
  ∀ (s : State) (p : Port) (cls : Nat) (c : Instr), (cls, c) ∈ recordCommands p →
    ((s.port p).reception ≠ .receiving → exec c s = .next (s.updPort p fun q => { q with frame := false })) ∧
    (∀ bytes : List Byte, s.Received p bytes → bytes.length < 4 →
      (∀ b ∈ bytes.head?, b.toNat / 16 = cls ∨ b.toNat / 16 = 0 ∨ 4 < b.toNat / 16) →
      exec c s = .next (s.answeredRefused p none .shortRecord)) ∧
    ∀ (b0 carriage flags n : Byte) (data : List Byte) (r : Reason),
      (s.port p).reception = .receiving → (s.port p).bytes = b0 :: carriage :: flags :: n :: data → MayEnd p c b0 data →
      headerRefusal s p b0 carriage flags n data (s.port p).ranLong = some r →
      exec c s = .next (s.answeredRefused p
        (if h : b0.toNat % 16 < 8 then
          if (s.stream ⟨b0.toNat % 16, h⟩).binding = some p ∨ r = .streamBusy ∨ r = .streamNotOpen then some ⟨b0.toNat % 16, h⟩
          else none
        else none) r)

/-- Step 6 of R4 for every control but SENSE (R8, whose four parts are taken in order, R174): no data or an unknown code is CONTROL
INVALID; an immediate control with SYNC or HALT is CLASS INVALID; data not of the length the code requires, or too short to hold the
count that length depends on, is LENGTH; and an operand that does not clamp outside its range is OPERAND RANGE. Each is counted on the
stream where it is bound to the port, and on none for a STREAM OPEN of an unbound stream (R6, R10); nothing else changes. -/
def Obligations.ControlRecordsAreChecked : Prop :=
  ∀ (s : State) (p : Port) (code : Nat) (immediate : Bool) (c : Instr), (code, immediate, c) ∈ controlCommands p →
    ∀ (i : StreamNo) (carriage : Byte) (sync halt : Bool) (data : List Byte),
      ((s.stream i).binding = some p ∨ (s.stream i).binding = none ∧ data.head? = some 0x02#8) →
      carriage.toNat / 16 = 0 → data.length ≤ 255 → s.Received p (recordBytes 2 i carriage sync halt data) →
      let counted := if (s.stream i).binding = some p then some i else none
      ((∀ b ∈ data.head?, ¬(0x01 ≤ b.toNat ∧ b.toNat ≤ 0x0A ∨ 0x21 ≤ b.toNat ∧ b.toNat ≤ 0x28)) →
        exec c s = .next (s.answeredRefused p counted .controlInvalid)) ∧
      (data.head? = some (BitVec.ofNat 8 code) → code ≠ 0x01 →
        (immediate = true → (sync = true ∨ halt = true) → exec c s = .next (s.answeredRefused p counted .classInvalid)) ∧
        ((immediate = true → sync = false ∧ halt = false) →
          (requiredLength code data ≠ some data.length → exec c s = .next (s.answeredRefused p counted .length)) ∧
          (requiredLength code data = some data.length → ¬ OperandsInRange code data →
            exec c s = .next (s.answeredRefused p counted .operandRange))))

/-- The checks of a SENSE (R8, R175): its flags, its length by its selector, its selector, and the number of the sensed stream. Where
the selector is unknown or missing, each of the three SENSE commands may be the record's (log entry 1). -/
def Obligations.SenseRecordsAreChecked : Prop :=
  ∀ (s : State) (p : Port) (selector : Nat) (c : Instr),
    (selector, c) ∈ [(1, Instr.senseDevice p), (2, .senseStream p), (3, .senseMark p)] →
    ∀ (i : StreamNo) (carriage : Byte) (sync halt : Bool) (rest : List Byte),
      s.ControlReceived p i carriage sync halt (0x01#8 :: rest) →
      (∀ k ∈ rest.head?, k.toNat = selector ∨ k.toNat = 0 ∨ 3 < k.toNat) →
      ((sync = true ∨ halt = true) → exec c s = .next (s.answeredRefused p (some i) .classInvalid)) ∧
      (sync = false → halt = false →
        (rest = [] → exec c s = .next (s.answeredRefused p (some i) .length)) ∧
        ∀ (k : Byte) (more : List Byte), rest = k :: more →
          (k.toNat = selector → more.length ≠ (if selector = 2 then 1 else 0) →
            exec c s = .next (s.answeredRefused p (some i) .length)) ∧
          (k.toNat ≠ selector → 1 < more.length → exec c s = .next (s.answeredRefused p (some i) .length)) ∧
          (k.toNat ≠ selector → more.length ≤ 1 → exec c s = .next (s.answeredRefused p (some i) .operandRange)) ∧
          ∀ n : Byte, k.toNat = selector → selector = 2 → more = [n] → 7 < n.toNat →
            exec c s = .next (s.answeredRefused p (some i) .operandRange))

/-! ### Queued records and the carriage shadow -/

/-- A PRINT record that passes the header checks is HELD, with nothing changed, where the run state is not RUN, its stream's queue is at
its quota, the pool is empty, or attention is pending under attention hold (R11, R21, R181). Otherwise it is TAKEN: stamped at the present
position with the data of the positions up to the width and its carriage action as received (R3, R31, R9), queued, form started set, the
carriage moved by its action and its two conditions counted; its ending status carries OVERFLOW where the motion reports it. -/
def Obligations.PrintRecordIsHeldOrTaken : Prop :=
  ∀ (s : State) (p : Port) (i : StreamNo) (carriage : Byte) (a : Action) (sync halt : Bool) (data : List Byte),
    (s.stream i).binding = some p → CarriageByte carriage a → data.length ≤ 255 →
    s.Received p (recordBytes 1 i carriage sync halt data) →
    let c := (s.stream i).carriage
    let m := ({ c with started := true } : Carriage).move s.forms a
    let r := s.stamped i (.print (data.take c.width)) a sync halt
    ((s.QueueHolds i ∨ (s.port p).hold = true ∧ s.attention p = true) → exec (.print p) s = .next (s.answeredHeld p)) ∧
    (¬(s.QueueHolds i ∨ (s.port p).hold = true ∧ s.attention p = true) →
      exec (.print p) s = .next (s.answeredTaken p i
        (fun u => ((u.updStream i fun t => { t with queue := t.queue ++ [r], carriage := m.after }).countIf
          m.unresolved i .skipUnresolved).countIf (decide (c.width < data.length)) i .truncated)
        m.overflow []))

/-- A MARK with its two data bytes, and a CLOSE without data: HELD as every queued record (R11), or TAKEN with the record stamped and
queued (R40, R39), a MARK as the number its bytes make (log entry 29). A MARK moves no carriage; a CLOSE not at line 1 takes a form
boundary to line 1 (R37, R39). -/
def Obligations.MarkAndCloseRecordsAreHeldOrTaken : Prop :=
  ∀ (s : State) (p : Port) (i : StreamNo) (carriage : Byte) (sync halt : Bool),
    (s.stream i).binding = some p → carriage.toNat / 16 = 0 →
    (∀ hi lo : Byte, s.Received p (recordBytes 3 i carriage sync halt [hi, lo]) →
      exec (.mark p) s = .next (s.queuedOutcome p i (.mark (BitVec.ofNat 16 (256 * hi.toNat + lo.toNat))) sync halt)) ∧
    (s.Received p (recordBytes 4 i carriage sync halt []) →
      (s.QueueHolds i → exec (.close p) s = .next (s.answeredHeld p)) ∧
      (¬ s.QueueHolds i →
        exec (.close p) s = .next (s.answeredTaken p i
          (fun u => u.updStream i fun t =>
            { t with
              queue := t.queue ++ [s.stamped i .close .none sync halt]
              carriage :=
                if t.carriage.line = 1 then t.carriage
                else
                  { form := (t.carriage.pending.map Select.form).getD t.carriage.form
                    width := (t.carriage.pending.map Select.width).getD t.carriage.width
                    pending := none, line := 1, sequence := t.carriage.sequence + 1, started := false } })
          false [])))

/-- NONE and SPACE n (R33, R34, R37, R38): where the carriage stands after the motion, and whether OVERFLOW is reported, by the length
and the overflow line of the form being left. -/
def Obligations.SpaceMotion : Prop :=
  ∀ (c : Carriage) (forms : Bank Form 4),
    let f := forms.get c.form
    c.move forms .none = { after := c, overflow := false, unresolved := false } ∧
    ∀ n : Nat,
      (c.line + n ≤ f.length →
        c.move forms (.space n) =
          { after := { c with line := c.line + n }
            overflow := decide (c.line < f.overflowLine ∧ f.overflowLine ≤ c.line + n), unresolved := false }) ∧
      (f.length < c.line + n →
        c.move forms (.space n) =
          { after :=
              { form := (c.pending.map Select.form).getD c.form, width := (c.pending.map Select.width).getD c.width
                pending := none, line := c.line + n - f.length, sequence := c.sequence + 1, started := false }
            overflow := decide (c.line < f.overflowLine), unresolved := false })

/-- SKIP c (R35, R36, R37, R38): the first stop of the class below the current line; or else the first stop of the class in the form
begun at the boundary, from line 1; or else line 1 of it, unresolved. No SKIP reports OVERFLOW. The stop lists ascend (R25). -/
def Obligations.SkipMotion : Prop :=
  ∀ (c : Carriage) (forms : Bank Form 4) (cls : Nat),
    (∀ k : Fin 4, (forms.get k).stops.Pairwise fun a b => a.line < b.line) → (∀ k : Fin 4, ∀ e ∈ (forms.get k).stops, 1 ≤ e.line) →
    let begun : Carriage :=
      { form := (c.pending.map Select.form).getD c.form, width := (c.pending.map Select.width).getD c.width
        pending := none, line := c.line, sequence := c.sequence + 1, started := false }
    let target := fun (k : Fin 4) (above l : Nat) =>
      (∃ e ∈ (forms.get k).stops, e.line = l ∧ e.classes.getLsbD cls = true) ∧ above < l ∧
      ∀ e ∈ (forms.get k).stops, above < e.line → e.line < l → e.classes.getLsbD cls = false
    (∀ l : Nat, target c.form c.line l →
      c.move forms (.skip cls) = { after := { c with line := l }, overflow := false, unresolved := false }) ∧
    ((∀ e ∈ (forms.get c.form).stops, c.line < e.line → e.classes.getLsbD cls = false) →
      (∀ l : Nat, target begun.form 0 l →
        c.move forms (.skip cls) = { after := { begun with line := l }, overflow := false, unresolved := false }) ∧
      ((∀ e ∈ (forms.get begun.form).stops, e.classes.getLsbD cls = false) →
        c.move forms (.skip cls) = { after := { begun with line := 1 }, overflow := false, unresolved := true }))

/-- Every queued control in range, whatever its operands and flags, is HELD, or TAKEN with exactly what its bytes ask for at the tail of
its stream's queue and no motion of the carriage (R8, R11, R15, R40, R50, R52, R54, R109, R124, R125, R183). The slot
holds the operands as read and clamped (log entry 29). -/
def Obligations.QueuedControlsAreReadAndQueued : Prop :=
  ∀ (s : State) (p : Port) (code : Nat) (c : Instr), (code, false, c) ∈ controlCommands p →
    ∀ (i : StreamNo) (carriage : Byte) (sync halt : Bool) (rest : List Byte),
      let data := BitVec.ofNat 8 code :: rest
      s.ControlReceived p i carriage sync halt data → requiredLength code data = some data.length → OperandsInRange code data →
      exec c s = .next (s.queuedOutcome p i (queuedBody code data) sync halt)

/-! ### Immediate controls -/

/-- SENSE DEVICE returns the DEVICE frame of R183 and empties the port's cause set and device condition set; SENSE MARK returns the MARK
frame with RENEWED, then empties the capture, clears RENEWED and removes the mark cause (R176, R178). No cause joins the set between the
frame and the ending status (log entry 28). -/
def Obligations.SenseDeviceAndMarkReturnFrames : Prop :=
  (∀ (s : State) (p : Port) (i : StreamNo) (carriage : Byte), s.ControlReceived p i carriage false false [0x01#8, 0x01#8] →
    ∃ f : List Byte,
      exec (.senseDevice p) s = .next (s.answeredTaken p i
        (fun u => u.updPort p fun q => { q with causes := Causes.empty, deviceSet := .replicate 7 false }) false f) ∧
      f.length = 32 ∧ byteAt f 0 = 1 ∧
      byteAt f 1 =
        16 * (match s.run with | .run => 0 | .stopping => 1 | .stopped => 2 | .check => 3)
          + (match s.cause with
              | .panel => 0 | .control => 1 | .halt => 2 | .jam => 3 | .notReady => 4 | .trayEmpty => 5 | .stackerFull => 6
              | .engineRestart => 7 | .purge => 8) ∧
      byteAt f 2 = s.outstanding ∧ wordAt f 3 = 2048 - s.spoolUsed ∧ byteAt f 5 = 64 - s.pages.length ∧
      wordAt f 6 = 4096 - s.usedSlots ∧
      s.spoolUsed = ((List.finRange 8).map fun j => (s.stream j).queue.length).sum ∧
      s.usedSlots = (s.pages.map fun g => g.lines.length).sum ∧
      (∀ j : StreamNo, byteAt f (8 + j.val) =
        64 * (match (s.stream j).binding with | none => 0 | some .a => 1 | some .b => 2)
          + 8 * (match (s.stream j).wait with | .none => 0 | .fence _ => 1 | .pin _ => 2 | .sync => 3 | .store => 4)
          + 4 * (s.openPage j).isSome.toNat) ∧
      (∀ d : Fin 7, (byteAt f 16).testBit d.val = (s.port p).deviceSet.get d) ∧ byteAt f 16 < 128 ∧
      (match (([0, 1] : List (Fin 2)).find? fun b => decide ((s.buffer b).state = .rendering)).bind fun b => (s.buffer b).page with
        | some r => byteAt f 17 = 128 + r.stream.val ∧ wordAt f 18 = r.number % 65536
        | none => byteAt f 17 = 0 ∧ wordAt f 18 = 0) ∧
      65536 * wordAt f 20 + wordAt f 22 = s.sheetsStacked.toNat ∧
      byteAt f 24 =
        (s.port p).causes.mark.toNat + 2 * (s.port p).causes.device.toNat + 4 * (s.port p).causes.run.toNat ∧
      (∀ j : StreamNo, (byteAt f 25).testBit j.val = (s.port p).causes.streams.get j) ∧
      byteAt f 26 = (if p = .b then 1 else 0) + 2 * (s.port p).hold.toNat ∧
      ∀ k, 27 ≤ k → byteAt f k = 0) ∧
  ∀ (s : State) (p : Port) (i : StreamNo) (carriage : Byte), s.ControlReceived p i carriage false false [0x01#8, 0x03#8] →
    ∃ f : List Byte,
      exec (.senseMark p) s = .next (s.answeredTaken p i
        (fun u => u.updPort p fun q => { q with capture := none, renewed := false, causes := { q.causes with mark := false } })
        false f) ∧
      f.length = 32 ∧ byteAt f 0 = 4 ∧ (∀ k, 12 ≤ k → byteAt f k = 0) ∧
      match (s.port p).capture with
      | none => ∀ k, 1 ≤ k → byteAt f k = 0
      | some c =>
        byteAt f 1 = 1 + 2 * (s.port p).renewed.toNat ∧ byteAt f 2 = c.stream.val ∧ wordAt f 3 = c.markId.toNat ∧
        wordAt f 5 = c.page % 65536 ∧ byteAt f 7 = (match c.stacker with | .one => 1 | .two => 2) ∧
        65536 * wordAt f 8 + wordAt f 10 = c.total.toNat

/-- SENSE STREAM of a stream bound to the port or unbound returns the STREAM STATE and STREAM CONDITIONS frames of R183, sets the stream's
counts to 0 and removes its cause from the port's set (R176); one bound to the other port is REFUSED OPERAND RANGE (R175). The
records-taken counter is shown as it stood before the SENSE itself, which then advances that of its header's stream (log entry 15). No
cause joins the set between the frames and the ending status (log entry 28). -/
def Obligations.SenseStreamReturnsTwoFrames : Prop :=
  ∀ (s : State) (p : Port) (i : StreamNo) (carriage : Byte) (j : StreamNo),
    s.ControlReceived p i carriage false false [0x01#8, 0x02#8, BitVec.ofNat 8 j.val] →
    let t := s.stream j
    ((∃ q, t.binding = some q ∧ q ≠ p) → exec (.senseStream p) s = .next (s.answeredRefused p (some i) .operandRange)) ∧
    ((t.binding = none ∨ t.binding = some p) →
      ∃ f g : List Byte,
        exec (.senseStream p) s = .next (s.answeredTaken p i
          (fun u => (u.updStream j fun v => { v with counts := .replicate 21 0 }).updPort p
            fun q => { q with causes := { q.causes with streams := q.causes.streams.set j false } }) false (f ++ g)) ∧
        f.length = 32 ∧ byteAt f 0 = 2 ∧ byteAt f 1 = j.val ∧
        byteAt f 2 =
          64 * ((t.carriage.pending.map fun e => e.form.val).getD 0) + 16 * t.carriage.form.val
            + 8 * t.carriage.pending.isSome.toNat + 4 * t.carriage.started.toNat
            + (match t.binding with | none => 0 | some .a => 1 | some .b => 2) ∧
        byteAt f 3 = t.carriage.width % 256 ∧ byteAt f 4 = ((t.carriage.pending.map fun e => e.width).getD 0) % 256 ∧
        byteAt f 5 = t.carriage.line % 256 ∧ wordAt f 6 = t.carriage.sequence.toNat ∧ wordAt f 8 = t.queue.length % 65536 ∧
        wordAt f 10 = t.quota % 65536 ∧ wordAt f 12 = t.pageCounter % 65536 ∧
        byteAt f 14 = (s.pages.filter fun q => decide (q.stream = j)).length % 256 ∧
        byteAt f 15 = t.syncsCompleted.toNat ∧ wordAt f 16 = t.recordsTaken.toNat ∧ wordAt f 18 = t.linesComposed.toNat ∧
        wordAt f 20 = t.pagesStacked.toNat ∧ wordAt f 22 = t.marksDelivered.toNat ∧ wordAt f 24 = t.blankFormsCounter.toNat ∧
        byteAt f 26 = (match t.wait with | .none => 0 | .fence _ => 1 | .pin _ => 2 | .sync => 3 | .store => 4) ∧
        (∀ k, 27 ≤ k → byteAt f k = 0) ∧
        g.length = 32 ∧ byteAt g 0 = 3 ∧ byteAt g 1 = j.val ∧ (∀ k : Fin 21, byteAt g (2 + k.val) = t.counts.get k % 256) ∧
        ∀ k, 23 ≤ k → byteAt g k = 0)

/-- A STREAM OPEN of nine data bytes (R16, R17, R12): on an unbound stream with a page in the store it is REFUSED STREAM ACTIVE, counted
on none; otherwise a first open gives the stream record its operands and every other field its reset value, but for its records-taken
counter, which the STREAM OPEN itself then advances to 1 (log entry 15), and its queue and buffer, which stay as they are (R16, R84; log
entry 27). On a stream bound to the port a quota below the queue count is REFUSED OPERAND RANGE; otherwise the five settings are replaced.
A STREAM RELEASE (R18) is REFUSED STREAM ACTIVE while the stream holds any work, and otherwise unbinds it. -/
def Obligations.StreamOpenAndRelease : Prop :=
  (∀ (s : State) (p : Port) (i : StreamNo) (carriage : Byte) (rest : List Byte),
    let data := 0x02#8 :: rest
    carriage.toNat / 16 = 0 → rest.length = 8 → s.Received p (recordBytes 2 i carriage false false data) →
    ((s.stream i).binding = none → (∃ q ∈ s.pages, q.stream = i) →
      exec (.streamOpen p) s = .next (s.answeredRefused p none .streamActive)) ∧
    ((s.stream i).binding = none → (∀ q ∈ s.pages, q.stream ≠ i) →
      exec (.streamOpen p) s = .next (s.answeredTaken p i
        (fun u => u.updStream i fun t =>
          { binding := some p, quota := max 16 (min (wordAt data 1) 2048)
            composerPriority := Fin.ofNat 4 (min (byteAt data 3) 3), imagingPriority := Fin.ofNat 4 (min (byteAt data 4) 3)
            pageAgeLimit := byteAt data 5
            eventMask := .ofFn fun k => (65536 * byteAt data 6 + wordAt data 7).testBit (23 - k.val)
            carriage := { form := 0, width := 132, pending := none, line := 1, sequence := 1, started := false }
            attributes := { tableSet := 0, geometry := 0, overlay := none, tray := .one, stacker := .one, copies := 1,
                            blankForms := .discard }
            wait := .none, counts := .replicate 21 0, recordsTaken := 0, linesComposed := 0, pagesStacked := 0
            syncsCompleted := 0, marksDelivered := 0, queue := t.queue, buffer := t.buffer, pageAge := .stopped
            fenceClaim := none, pageCounter := 1, lastLined := none, blankFormsCounter := 0 }) false [])) ∧
    ((s.stream i).binding = some p → max 16 (min (wordAt data 1) 2048) < (s.stream i).queue.length →
      exec (.streamOpen p) s = .next (s.answeredRefused p (some i) .operandRange)) ∧
    ((s.stream i).binding = some p → (s.stream i).queue.length ≤ max 16 (min (wordAt data 1) 2048) →
      exec (.streamOpen p) s = .next (s.answeredTaken p i (fun u => u.updStream i fun t => t.withOpenOperands data) false []))) ∧
  ∀ (s : State) (p : Port) (i : StreamNo) (carriage : Byte), s.ControlReceived p i carriage false false [0x03#8] →
    let busy := (s.stream i).queue ≠ [] ∨ (s.stream i).buffer ≠ none ∨ (∃ q ∈ s.pages, q.stream = i) ∨
      (s.stream i).wait ≠ .none ∨ ∃ k : Fin 8, (s.slot k).state = .loading i
    (busy → exec (.streamRelease p) s = .next (s.answeredRefused p (some i) .streamActive)) ∧
    (¬ busy →
      exec (.streamRelease p) s
        = .next (s.answeredTaken p i (fun u => u.updStream i fun t => { t with binding := none }) false []))

/-- CANCEL, in every run state (R19, R103, R134, R82, R162): the stream's queue, buffer, timer, claim, wait and carriage; its OPEN and
CLOSED pages, with their places on the recovery list; the sync points of its other pages; its open load. Other streams keep all but a
STORE wait, which ends where a page was discarded (R83, log entry 16), a PIN wait whose pin count reached 0 (R128), and a FENCE wait that
the discarded buffer held (R82). A record of the stream being taken is discarded with its queue (R19; log entry 14). The ports, the
tables, the engine link and the run state keep everything. -/
def Obligations.CancelDiscardsTheStreamsWork : Prop :=
  ∀ (s : State) (p : Port) (i : StreamNo) (carriage : Byte), s.ControlReceived p i carriage false false [0x04#8] →
    exec (.cancel p) s = .next (s.answeredTaken p i (fun u => u.cancelStream i) false []) ∧
    ∀ u : State,
      let gone := fun q : Page => decide (q.stream = i ∧ (q.state = .opened ∨ q.state = .closed))
      ∃ t, u.cancelStream i = t ∧
      t.stream i = { u.stream i with
        queue := [], buffer := none, pageAge := .stopped, fenceClaim := none, wait := .none, lastLined := none
        carriage := { form := 0, width := 132, pending := none, line := 1, sequence := 1, started := false } } ∧
      (∀ j : StreamNo, j ≠ i → { t.stream j with wait := .none } = { u.stream j with wait := .none } ∧
        (t.stream j).wait =
          match (u.stream j).wait with
          | .store => if u.pages.any gone then .none else .store
          | .pin k => if u.pages.any gone ∧ t.pinCount k = 0 then .none else .pin k
          | .fence k =>
            if (u.stream i).buffer.any (fun b => decide (b.tableSet = k)) ∧
              (∀ m : StreamNo, m ≠ j → ∀ b ∈ (t.stream m).buffer, b.tableSet ≠ k) then .none else .fence k
          | w => w) ∧
      t.pages = (u.pages.filter fun q => !gone q).map (fun q => if q.stream = i then { q with syncPoint := false } else q) ∧
      t.recovery = (u.recovery.filter fun r => !u.pages.any fun q => gone q && decide (q.ref = r)) ∧
      (∀ k : Fin 8, t.slot k =
        if u.openLoad i = some k then { u.slot k with state := .empty } else u.slot k) ∧
      t.taking = u.takingWithout (fun j => decide (j = i)) ∧
      t = { u with streams := t.streams, taking := t.taking, pages := t.pages, overlays := t.overlays, recovery := t.recovery }

/-- FORM LOAD in range (R27, R28): REFUSED FORM IN USE while a bound stream, on either port, has the form in force and stands off line 1
or has it started; otherwise the whole form record is replaced. -/
def Obligations.FormLoadReplacesTheForm : Prop :=
  ∀ (s : State) (p : Port) (i : StreamNo) (carriage : Byte) (rest : List Byte),
    let data := 0x05#8 :: rest
    s.ControlReceived p i carriage false false data → requiredLength 0x05 data = some data.length → OperandsInRange 0x05 data →
    let f := Fin.ofNat 4 (byteAt data 1)
    let inUse := ∃ j : StreamNo, (s.stream j).binding ≠ none ∧ (s.stream j).carriage.form = f ∧
      ((s.stream j).carriage.line ≠ 1 ∨ (s.stream j).carriage.started = true)
    (inUse → exec (.formLoad p) s = .next (s.answeredRefused p (some i) .formInUse)) ∧
    (¬ inUse →
      exec (.formLoad p) s
        = .next (s.answeredTaken p i (fun u => { u with forms := u.forms.set f (formAt data) }) false []))

/-- FORM SELECT in range (R41, R42), PORT SET (R181) and ENGINE SET in range (R151 to R153): the select applies at once at line 1 with
form started no, and is pending otherwise; the hold is the port's; the settings change in STOPPED alone. -/
def Obligations.FormSelectPortSetAndEngineSet : Prop :=
  ∀ (s : State) (p : Port) (i : StreamNo) (carriage : Byte),
    (∀ f w : Byte, s.ControlReceived p i carriage false false [0x06#8, f, w] → f.toNat ≤ 3 → 1 ≤ w.toNat → w.toNat ≤ 160 →
      exec (.formSelect p) s = .next (s.answeredTaken p i
        (fun u => u.updStream i fun t =>
          { t with
            carriage :=
              if t.carriage.line = 1 ∧ t.carriage.started = false then
                { t.carriage with form := Fin.ofNat 4 f.toNat, width := w.toNat, pending := none }
              else { t.carriage with pending := some { form := Fin.ofNat 4 f.toNat, width := w.toNat } } }) false [])) ∧
    (∀ v : Byte, s.ControlReceived p i carriage false false [0x07#8, v] → v.toNat ≤ 1 →
      exec (.portSet p) s
        = .next (s.answeredTaken p i (fun u => u.updPort p fun q => { q with hold := decide (v.toNat = 1) }) false [])) ∧
    ∀ rest : List Byte, s.ControlReceived p i carriage false false (0x0A#8 :: rest) → rest.length = 12 →
      OperandsInRange 0x0A (0x0A#8 :: rest) →
      (s.run ≠ .stopped → exec (.engineSet p) s = .next (s.answeredRefused p (some i) .notStopped)) ∧
      (s.run = .stopped →
        exec (.engineSet p) s
          = .next (s.answeredTaken p i (fun u => { u with settings := settingsAt (0x0A#8 :: rest) }) false []))

/-! ### Run states and the panel -/

/-- What a stop request (R185, R186) and a start (R187) do in each run state, whichever of the panel, the STOP and RESUME controls and the
HALT flag they come from: with no sheet outstanding and no taking under way STOPPING gives way to STOPPED at once, which puts the
run-state cause in both ports' sets (R179). The controls STOP, with cause CONTROL, and RESUME are TAKEN in every run state. -/
def Obligations.StopAndStartByRunState : Prop :=
  (∀ s : State,
    let raised := fun u : State =>
      { u with ports := u.ports.map fun q => { q with causes := { q.causes with run := true } } }
    let rest := s.outstanding = 0 ∧ s.taking = none
    (∀ c : Cause,
      ((s.run = .stopping ∨ s.run = .stopped) → s.stopRequest c = s) ∧
      ((s.run = .run ∨ s.run = .check) → rest → s.stopRequest c = raised { s with run := .stopped, cause := c }) ∧
      ((s.run = .run ∨ s.run = .check) → ¬ rest → s.stopRequest c = { s with run := .stopping, cause := c })) ∧
    (s.run = .run → s.start = s) ∧
    ((s.run = .stopping ∨ s.run = .stopped ∨ s.run = .check ∧ s.cause = .jam) → s.start = { s with run := .run }) ∧
    (s.run = .check → s.cause ≠ .jam → s.start = s)) ∧
  ∀ (s : State) (p : Port) (i : StreamNo) (carriage : Byte),
    (s.ControlReceived p i carriage false false [0x08#8] →
      exec (.stop p) s = .next (s.answeredTaken p i (fun u => u.stopRequest .control) false [])) ∧
    (s.ControlReceived p i carriage false false [0x09#8] →
      exec (.resume p) s = .next (s.answeredTaken p i (fun u => u.start) false []))

/-! ### Grants and the composer's takings -/

/-- The composer's grant (R59 to R61): in RUN and CHECK, with no taking under way, the eligible stream of the lowest effective priority
number, and among those the first after the pointer in ascending stream number, with the head record of its queue. While a taking is
under way the grant is that taking's, in every run state, and none is left where its record was discarded (R19): that a taking under way
is held so, up to the command that completes it, is log entry 14. -/
def Obligations.GrantGoesToTheFirstInLine : Prop :=
  ∀ (s : State) (i : StreamNo) (r : Resolved),
    let head := fun (j : StreamNo) (q : Resolved) => ∃ rest, (s.stream j).queue = q :: rest
    let eligible := fun j : StreamNo =>
      (s.stream j).binding ≠ none ∧ (s.stream j).wait = .none ∧
      ∃ q, head j q ∧ ¬((∃ data, q.body = .print data) ∧ (s.stream j).buffer = none ∧
        ∃ k : StreamNo, k ≠ j ∧ (s.stream k).fenceClaim = some (s.stream j).attributes.tableSet)
    let number := fun j : StreamNo =>
      ((s.stream j).composerPriority.val : Int) - (if (s.stream j).pageAge = .expired then 4 else 0)
    let turn := fun j : StreamNo => (j.val + 7 - s.composerPointer.val) % 8
    (s.taking = none →
      (s.grant = some (i, r) ↔
        (s.run = .run ∨ s.run = .check) ∧ eligible i ∧ head i r ∧
        ∀ j : StreamNo, j ≠ i → eligible j → number i < number j ∨ number i = number j ∧ turn i < turn j)) ∧
    (∀ j : StreamNo, s.taking = some (.granted j) → (s.grant = some (i, r) ↔ j = i ∧ head i r)) ∧
    ∀ body : Body, s.taking = some (.discarded body) → s.grant = none

/-- A composer command of another kind than the granted record's, and any with no grant, is no event (log entry 8). A taking whose
space test fails ends in a STORE wait with nothing of it carried out (R63, R83). And one whose record was discarded with its queue
completes at the command of its kind, with no effect (R19) but the test of R186 (log entry 14). What a taking has begun with is the
pointer at its stream (R61) and the taking under way. -/
def Obligations.TakingsOfOtherKindsWaitsAndDiscards : Prop :=
  ∀ (s : State),
    (∀ i : StreamNo, s.beginGrant i = { s with composerPointer := i, taking := some (.granted i) }) ∧
    (s.grant = none → (∀ body, s.taking ≠ some (.discarded body)) → ∀ c ∈ composerCommands, exec c s = .next s) ∧
    (∀ (i : StreamNo) (r : Resolved), s.grant = some (i, r) →
      (∀ c ∈ composerCommands, c ≠ takeCommand r.body → exec c s = .next s) ∧
      ((s.beginGrant i).spaceTest i (s.takingLines i r) = false →
        exec (takeCommand r.body) s = .next (({ s with composerPointer := i } : State).waits i .store))) ∧
    ∀ body : Body, s.taking = some (.discarded body) →
      exec (takeCommand body) s = .next s.takingEnds ∧ ∀ c ∈ composerCommands, c ≠ takeCommand body → exec c s = .next s

/-- TAKE_PRINT (R66, R67, R70, R131, R45): an open load completes, the record's bytes merge into the stream's buffer, opened at the
record's position with the stream's table set where it was EMPTY, by that buffer's tables; VOID CODE and COLLISION count once each;
with advance the buffer is emitted; and the taking ends. A new buffer's cells are empty, their weight without meaning (log entry 9). -/
def Obligations.TakePrintStrikesTheBuffer : Prop :=
  ∀ (s : State) (i : StreamNo) (r : Resolved) (data : List Byte), s.Granted i r → r.body = .print data →
    let u := (s.beginGrant i).completeLoad i
    let b : Assembly := (s.stream i).buffer.getD
      { sequence := r.sequence, line := r.line, tableSet := (s.stream i).attributes.tableSet, length := r.length, pitch := r.pitch,
        width := r.width
        cells := .replicate 160 { base := none, baseMark := none, overGlyph := none, weight := 1, underline := false } }
    let k := strikeFrom (s.tables.get b.tableSet) 0 b.cells data
    let struck := ((u.updStream i fun t => { t with buffer := some { b with cells := k.cells } }).countIf k.void i .voidCode).countIf
      k.collision i .collision
    s.struck i r data = { b with cells := k.cells } ∧
    exec .takePrint s = .next ((if r.advance then struck.emit i else struck).finished i r)

/-- Data byte `j` merges into cell `j` by the translate entry at its index and the other cells keep what they held (R45, R66); VOID CODE is
found where a byte's entry is VOID (R45), COLLISION where a merge drops its glyph (R70). The cell merge (R68) and the glyph merge (R69)
act by the first of the rules 1 to 7 that applies, the pair table consulted by R47 for the keys (base, m) and (g, base mark). -/
def Obligations.StrikesMergeIntoCells : Prop :=
  (∀ (t : TableSet) (cells : Bank Cell 160) (data : List Byte), data.length ≤ 160 →
    let k := strikeFrom t 0 cells data
    (∀ j : Fin 160, k.cells.get j =
      match data[j.val]? with
      | some b => ((cells.get j).merge t.pairs (t.xlate.get ⟨b.toNat, b.isLt⟩)).cell
      | none => cells.get j) ∧
    (k.void = true ↔ ∃ b ∈ data, t.xlate.get ⟨b.toNat, b.isLt⟩ = .void) ∧
    (k.collision = true ↔ ∃ (j : Fin 160) (b : Byte), data[j.val]? = some b ∧
      ((cells.get j).merge t.pairs (t.xlate.get ⟨b.toNat, b.isLt⟩)).collision = true)) ∧
  ∀ (c : Cell) (pairs : List PairEntry), pairs.Pairwise (fun a b => a.keyBefore b = true) →
    c.merge pairs .space = ⟨c, false, false⟩ ∧ c.merge pairs .void = ⟨c, true, false⟩ ∧
    c.merge pairs .underscore = ⟨{ c with underline := true }, false, false⟩ ∧
    ∀ (g : Glyph) (m : Option MarkNo),
      let merged := fun e : PairEntry => ({ c with base := some e.composite, baseMark := none } : Cell)
      let fourth := fun e : PairEntry => e ∈ pairs ∧ c.base = some e.glyph ∧ m = some e.mark
      let fifth := fun e : PairEntry => e ∈ pairs ∧ e.glyph = g ∧ c.baseMark = some e.mark
      (c.base = none → c.merge pairs (.glyph g m) = ⟨{ c with base := some g, baseMark := m, weight := 1 }, false, false⟩) ∧
      (c.base = some g → c.merge pairs (.glyph g m) = ⟨{ c with weight := min 3 (c.weight + 1) }, false, false⟩) ∧
      (c.base ≠ none → c.base ≠ some g →
        (c.overGlyph = some g → c.merge pairs (.glyph g m) = ⟨c, false, false⟩) ∧
        (c.overGlyph ≠ some g →
          (∀ e, fourth e → c.merge pairs (.glyph g m) = ⟨merged e, false, false⟩) ∧
          ((∀ e, ¬ fourth e) →
            (∀ e, fifth e → c.merge pairs (.glyph g m) = ⟨merged e, false, false⟩) ∧
            ((∀ e, ¬ fifth e) →
              (c.overGlyph = none → c.merge pairs (.glyph g m) = ⟨{ c with overGlyph := some g }, false, false⟩) ∧
              (c.overGlyph ≠ none → c.merge pairs (.glyph g m) = ⟨c, false, true⟩)))))

/-- TAKE_MARK hands the mark to the Page Store with the buffer not emitted (R73); TAKE_CLOSE emits the buffer and closes the open page
(R74), each completing an open load first (R131). TAKE_GEOMETRY_LOAD replaces one geometry entry (R110) and TAKE_STREAM_SET the stream's
seven attributes (R79), each after the emission of the buffer (R77), with no fence. -/
def Obligations.MarkCloseGeometryAndStreamSetAreTaken : Prop :=
  ∀ (s : State) (i : StreamNo) (r : Resolved), s.Granted i r →
    let e := (s.beginGrant i).emit i
    (∀ id : Word16, r.body = .mark id →
      exec .takeMark s = .next ((((s.beginGrant i).completeLoad i).attachMark i id).finished i r)) ∧
    (r.body = .close → exec .takeClose s = .next (((e.completeLoad i).closePage i).finished i r)) ∧
    (∀ (k : Fin 8) (g : Geometry), r.body = .geometryLoad k g →
      exec .takeGeometryLoad s = .next ({ e with geometry := e.geometry.set k g }.finished i r)) ∧
    ∀ a : Attributes, r.body = .streamSet a →
      exec .takeStreamSet s = .next ((e.updStream i fun t => { t with attributes := a }).finished i r)

/-- TAKE_XLATE_LOAD, TAKE_PAIR_LOAD and TAKE_PAIR_CLEAR (R77, R80, R81, R51, R53, R54): the buffer is emitted; where another stream has
an OPEN buffer on the named set the grant ends in a FENCE wait with a claim; otherwise the load is applied whole, the claim ends, and
TABLE FULL counts once where a pair entry was dropped. -/
def Obligations.TableLoadsMeetTheFence : Prop :=
  ∀ (s : State) (i : StreamNo) (r : Resolved), s.Granted i r →
    let e := (s.beginGrant i).emit i
    let fenced := fun k : Fin 2 => ∃ j : StreamNo, j ≠ i ∧ ∃ b, (s.stream j).buffer = some b ∧ b.tableSet = k
    let waited := fun k : Fin 2 => (e.updStream i fun t => { t with fenceClaim := some k }).waits i (.fence k)
    let loaded := fun (k : Fin 2) (t : TableSet) =>
      ({ e with tables := e.tables.set k t } : State).updStream i fun u => { u with fenceClaim := none }
    (∀ (k : Fin 2) (first : Nat) (entries : List XlateEntry), r.body = .xlateLoad k first entries →
      (fenced k → exec .takeXlateLoad s = .next (waited k)) ∧
      (¬ fenced k → exec .takeXlateLoad s = .next ((loaded k
        { s.tables.get k with xlate := xlateReplace (s.tables.get k).xlate first entries }).finished i r))) ∧
    (∀ (k : Fin 2) (entries : List PairEntry), r.body = .pairLoad k entries →
      (fenced k → exec .takePairLoad s = .next (waited k)) ∧
      (¬ fenced k →
        let after := pairLoadAll (s.tables.get k).pairs entries
        exec .takePairLoad s
          = .next (((loaded k { s.tables.get k with pairs := after.1 }).countIf after.2 i .tableFull).finished i r))) ∧
    ∀ k : Fin 2, r.body = .pairClear k →
      (fenced k → exec .takePairClear s = .next (waited k)) ∧
      (¬ fenced k → exec .takePairClear s = .next ((loaded k { s.tables.get k with pairs := [] }).finished i r))

/-- What a load leaves in the tables: the translate entries from the first code on are replaced and the others kept (R51); a pair entry
replaces the composite of its key, or is inserted at its place while the size is below 128, or is dropped, the entries of a record
applied one after another (R53). Key order is by glyph number, and for equal glyph numbers by mark number (R46). -/
def Obligations.LoadedTablesHoldTheEntries : Prop :=
  (∀ (x : Bank XlateEntry 256) (first : Nat) (entries : List XlateEntry), first + entries.length ≤ 256 →
    ∀ j : Fin 256, (xlateReplace x first entries).get j =
      if first ≤ j.val then (entries[j.val - first]?).getD (x.get j) else x.get j) ∧
  (∀ a b : PairEntry, a.keyBefore b = true ↔ a.glyph < b.glyph ∨ a.glyph = b.glyph ∧ a.mark < b.mark) ∧
  ∀ (pairs : List PairEntry), pairs.Pairwise (fun a b => a.keyBefore b = true) →
    pairLoadAll pairs [] = (pairs, false) ∧
    ∀ (e : PairEntry) (es : List PairEntry),
      let has := ∃ p ∈ pairs, p.glyph = e.glyph ∧ p.mark = e.mark
      let one := (pairLoadAll pairs [e]).1
      (pairLoadAll pairs (e :: es) = ((pairLoadAll one es).1, (pairLoadAll pairs [e]).2 || (pairLoadAll one es).2)) ∧
      ((pairLoadAll pairs [e]).2 = true ↔ ¬ has ∧ 128 ≤ pairs.length) ∧
      (¬ has → 128 ≤ pairs.length → one = pairs) ∧
      (has ∨ pairs.length < 128 →
        one.Pairwise (fun a b => a.keyBefore b = true) ∧
        ∀ p : PairEntry, p ∈ one ↔ p = e ∨ p ∈ pairs ∧ ¬(p.glyph = e.glyph ∧ p.mark = e.mark))

/-- TAKE_OVERLAY_BEGIN (R126, R127): after the emission the stream's own open load is abandoned with OVERLAY SEQUENCE counted, and its
OPEN page that names the slot is closed; then, while the slot's pin count is above 0, the grant ends in a PIN wait; otherwise the slot
becomes LOADING under the stream with an empty list, a load of another stream on it ending with OVERLAY SEQUENCE counted there. -/
def Obligations.OverlayBeginMeetsThePinTest : Prop :=
  ∀ (s : State) (i : StreamNo) (r : Resolved) (k : Fin 8) (declared : Nat), s.Granted i r → r.body = .overlayBegin k declared →
    let e := (s.beginGrant i).emit i
    (∀ u : State, u.pinCount k = (u.pages.filter fun q => decide (q.overlay = some k)).length) ∧
    ∃ one two : State,
      ((∀ m : Fin 8, (s.slot m).state ≠ .loading i) → one = e) ∧
      (∀ m : Fin 8, s.openLoad i = some m →
        one = (e.updSlot m fun o => { o with state := .empty }).countCond i .overlaySequence) ∧
      (∀ p, one.openPage i = some p → p.overlay = some k → two = one.closePage i) ∧
      ((∀ p, one.openPage i = some p → p.overlay ≠ some k) → two = one) ∧
      (1 ≤ two.pinCount k →
        exec .takeOverlayBegin s
          = .next (two.waits i (.pin k))) ∧
      (two.pinCount k = 0 →
        ((∀ j : StreamNo, j ≠ i → (two.slot k).state ≠ .loading j) →
          exec .takeOverlayBegin s
            = .next ((two.updSlot k fun _ => { state := .loading i, entries := [], declared := declared }).finished i r)) ∧
        ∀ j : StreamNo, j ≠ i → (two.slot k).state = .loading j →
          exec .takeOverlayBegin s
            = .next (((two.countCond j .overlaySequence).updSlot k
                fun _ => { state := .loading i, entries := [], declared := declared }).finished i r))

/-- TAKE_OVERLAY_ENTRIES and TAKE_OVERLAY_END (R129, R130), after the emission of the buffer, with and without an open load; and the
completion of an open load by a PRINT, MARK or CLOSE (R131). -/
def Obligations.OverlayEntriesAndEndAreTaken : Prop :=
  (∀ (s : State) (i : StreamNo) (r : Resolved), s.Granted i r →
    let e := (s.beginGrant i).emit i
    let ended := fun k : Fin 8 =>
      (e.updSlot k fun o => { o with state := .ready }).countIf
        (decide ((e.slot k).entries.length < (e.slot k).declared)) i .overlayIncomplete
    (∀ entries : List OverlayEntry, r.body = .overlayEntries entries →
      (s.openLoad i = none → exec .takeOverlayEntries s = .next ((e.countCond i .overlaySequence).finished i r)) ∧
      ∀ k : Fin 8, s.openLoad i = some k →
        (1 ≤ e.pinCount k → exec .takeOverlayEntries s = .next ((e.countCond i .overlaySequence).finished i r)) ∧
        (e.pinCount k = 0 →
          let room := (e.slot k).declared - (e.slot k).entries.length
          exec .takeOverlayEntries s
            = .next (((e.updSlot k fun o => { o with entries := o.entries ++ entries.take room }).countIf
                (decide (room < entries.length)) i .overlaySequence).finished i r))) ∧
    (r.body = .overlayEnd →
      (s.openLoad i = none → exec .takeOverlayEnd s = .next ((e.countCond i .overlaySequence).finished i r)) ∧
      ∀ k : Fin 8, s.openLoad i = some k → exec .takeOverlayEnd s = .next ((ended k).finished i r))) ∧
  ∀ (s : State) (i : StreamNo),
    (s.openLoad i = none ↔ ∀ k : Fin 8, (s.slot k).state ≠ .loading i) ∧
    (∀ k : Fin 8, s.openLoad i = some k → (s.slot k).state = .loading i) ∧
    (s.openLoad i = none → s.completeLoad i = s) ∧
    ∀ k : Fin 8, s.openLoad i = some k →
      s.completeLoad i = (s.updSlot k fun o => { o with state := .ready }).countIf
        (decide ((s.slot k).entries.length < (s.slot k).declared)) i .overlayIncomplete

/-! ### Emission, lines and pages -/

/-- The emission of a buffer (R71, R72, R82): the cells to the highest non-empty position, without base marks, go to the Page Store as a
line and the lines-composed counter advances; a buffer with no non-empty cell gives none; the buffer becomes EMPTY, and each FENCE wait
on its set that no other stream's buffer still holds ends. -/
def Obligations.EmissionHandsTheLineOver : Prop :=
  ∀ (s : State) (i : StreamNo),
    ((s.stream i).buffer = none → s.emit i = s ∧ s.bufferLine i = []) ∧
    ∀ b : Assembly, (s.stream i).buffer = some b →
      let inked := fun j : Fin 160 =>
        (b.cells.get j).base ≠ none ∨ (b.cells.get j).overGlyph ≠ none ∨ (b.cells.get j).underline = true
      let left := fun u : State =>
        let w := u.updStream i fun t => { t with buffer := none }
        { w with streams := w.streams.mapIdx fun j t =>
            if t.wait = .fence b.tableSet ∧ ∀ m : StreamNo, m ≠ j → ∀ c, (w.stream m).buffer = some c → c.tableSet ≠ b.tableSet then
              { t with wait := .none }
            else t }
      s.bufferLine i = b.composed.toList ∧
      ((∀ j, ¬ inked j) → s.emit i = left s ∧ b.composed = none) ∧
      ∀ top : Fin 160, inked top → (∀ j, inked j → j ≤ top) →
        ∃ ln : ComposedLine, b.composed = some ln ∧
          s.emit i = left ((s.receiveLine i ln).updStream i fun t => { t with linesComposed := t.linesComposed + 1 }) ∧
          ln.sequence = b.sequence ∧ ln.line = b.line ∧ ln.length = b.length ∧ ln.pitch = b.pitch ∧ ln.width = b.width ∧
          ln.cells.length = top.val + 1 ∧
          ∀ j : Fin 160, j ≤ top → ln.cells[j.val]? = some
            { base := (b.cells.get j).base, overGlyph := (b.cells.get j).overGlyph, weight := (b.cells.get j).weight,
              underline := (b.cells.get j).underline }

/-- A line arrives (R91 to R93, R96, R90, R62): it joins the OPEN page of its form sequence; an OPEN page of another sequence closes
first; with none open the passed-over forms (d - 1, where the last lined sequence is known) are counted, blank pages are made of the
last 16 at most under PRINT, and the line's page opens with the captured values. Each page takes the page counter's value, which then
advances by 1, from 65535 to 1 (R90). Serials are the model's own (log entry 13). -/
def Obligations.LinesOpenAndFillPages : Prop :=
  ∀ (s : State) (i : StreamNo) (ln : ComposedLine), s.StoreLaw →
    let t := s.stream i
    let passed := (t.lastLined.map fun last => (ln.sequence - last).toNat - 1).getD 0
    let made := if t.attributes.blankForms = .print then min passed 16 else 0
    let next := fun n : Nat => if n < 65535 then n + 1 else 1
    let lined := fun u : Stream => { u with lastLined := some ln.sequence }
    (∀ p, s.openPage i = some p → p.sequence = ln.sequence →
      s.receiveLine i ln
        = (s.updPage p.ref fun q => { q with lines := q.lines ++ [ln], reservation := q.reservation - 1 }).updStream i lined) ∧
    (∀ p, s.openPage i = some p → p.sequence ≠ ln.sequence → s.receiveLine i ln = (s.closePage i).receiveLine i ln) ∧
    (s.openPage i = none →
      ∃ pages : List Page,
        s.receiveLine i ln =
          ({ s with pages := s.pages ++ pages, pagesOpened := s.pagesOpened + made + 1 } : State).updStream i
            (fun u => { u with
              pageCounter := next^[made + 1] u.pageCounter
              blankFormsCounter := u.blankFormsCounter + BitVec.ofNat 16 passed
              pageAge := if u.pageAgeLimit = 0 then .stopped else .running u.pageAgeLimit
              lastLined := some ln.sequence }) ∧
        pages.length = made + 1 ∧
        ∀ k ≤ made, ∃ p : Page, pages[k]? = some p ∧
          p = { stream := i, number := next^[k] t.pageCounter, serial := s.pagesOpened + k
                state := if k = made then .opened else .closed
                sequence := ln.sequence - BitVec.ofNat 16 (made - k), blank := decide (k ≠ made)
                geometry := s.geometry.get t.attributes.geometry, length := ln.length, pitch := ln.pitch, width := ln.width
                cellSize := chooseCell (s.geometry.get t.attributes.geometry) ln.length ln.pitch ln.width
                overlay := t.attributes.overlay, tray := t.attributes.tray, stacker := t.attributes.stacker
                copies := t.attributes.copies, copiesIssued := 0, copiesStacked := 0, syncPoint := false, clipped := false
                marks := [], lines := if k = made then [ln] else []
                reservation := if k = made then ln.length - 1 else 0 })

/-- The space test of the line a taking emits (R88, R89, R96): a page that is opened needs one record for itself and one for each blank
page, and unreserved slots for its form length, counting the reservation its opening releases; a line joining its page needs a slot of
the reservation or an unreserved one; no line needs nothing. -/
def Obligations.SpaceTestOfALine : Prop :=
  ∀ (s : State) (i : StreamNo) (ln : ComposedLine), s.StoreLaw →
    let t := s.stream i
    let passed := (t.lastLined.map fun last => (ln.sequence - last).toNat - 1).getD 0
    let made := if t.attributes.blankForms = .print then min passed 16 else 0
    let room := 4096 - s.usedSlots - s.reserved
    s.reserved = (s.pages.map fun q => q.reservation).sum ∧
    s.spaceTest i [] = true ∧
    (s.openPage i = none →
      (s.spaceTest i [ln] = true ↔ made + 1 + s.pages.length ≤ 64 ∧ ln.length ≤ room)) ∧
    ∀ p, s.openPage i = some p →
      (p.sequence = ln.sequence → (s.spaceTest i [ln] = true ↔ 1 ≤ p.reservation ∨ 1 ≤ room)) ∧
      (p.sequence ≠ ln.sequence →
        (s.spaceTest i [ln] = true ↔ made + 1 + s.pages.length ≤ 64 ∧ ln.length ≤ room + p.reservation))

/-- A page closes (R94, R88, R62): it becomes CLOSED with reservation 0, the stream's page-age timer stops, and where a reservation was
released every STORE wait ends. With no OPEN page nothing closes. And a running page-age timer that runs out is EXPIRED (R62). -/
def Obligations.PageCloseAndPageAge : Prop :=
  ∀ (s : State) (i : StreamNo),
    (s.openPage i = none ↔ ∀ q ∈ s.pages, ¬(q.stream = i ∧ q.state = .opened)) ∧
    (∀ p, s.openPage i = some p → p ∈ s.pages ∧ p.stream = i ∧ p.state = .opened) ∧
    (s.openPage i = none → s.closePage i = s) ∧
    (∀ p, s.openPage i = some p →
      let closed := (s.updPage p.ref fun q => { q with state := .closed, reservation := 0 }).updStream i
        fun t => { t with pageAge := .stopped }
      s.closePage i =
        if p.reservation = 0 then closed
        else { closed with
          streams := closed.streams.map fun t => if t.wait = .store then { t with wait := .none } else t }) ∧
    exec (.pageAgeExpiry i) s = .next (s.updStream i fun t =>
      { t with pageAge := match t.pageAge with | .running _ => .expired | .stopped => .stopped | .expired => .expired })

/-- A mark (R97, R98, R177): it joins the OPEN page, or else the stream's newest page in the store; a ninth is dropped with MARK OVERRUN
counted; with no page it is delivered at once, with page number 0 and the stream's stacker. A delivery is dropped on an unbound stream;
otherwise marks-delivered advances and the bound port's capture takes the mark, RENEWED where one stood unread. -/
def Obligations.MarksAttachOrAreDelivered : Prop :=
  ∀ (s : State) (i : StreamNo) (id : Word16),
    (∀ p, (s.openPage i = some p ∨ s.openPage i = none ∧ (s.pages.filter fun q => decide (q.stream = i)).getLast? = some p) →
      (p.marks.length < 8 → s.attachMark i id = s.updPage p.ref fun q => { q with marks := q.marks ++ [id] }) ∧
      (8 ≤ p.marks.length → s.attachMark i id = s.countCond i .markOverrun)) ∧
    ((∀ p ∈ s.pages, p.stream ≠ i) → s.attachMark i id = s.deliverMark i id 0 (s.stream i).attributes.stacker) ∧
    ∀ (number : Nat) (k : Stacker),
      ((s.stream i).binding = none → s.deliverMark i id number k = s) ∧
      ∀ p : Port, (s.stream i).binding = some p →
        s.deliverMark i id number k =
          (s.updStream i fun t => { t with marksDelivered := t.marksDelivered + 1 }).updPort p fun q =>
            { q with
              capture := some { stream := i, markId := id, page := number, stacker := k, total := s.sheetsStacked }
              renewed := q.renewed || q.capture.isSome
              causes := { q.causes with mark := true } }

/-- The SYNC flag at the Page Store (R99, R100): the OPEN page closes, or else the stream's newest page stands, as the sync point with the
stream in a SYNC wait; with no page in the store the sync completes at once: syncs-completed advances, SYNC DONE is counted, and the
wait reason is NONE. -/
def Obligations.SyncWaitsForTheNewestPage : Prop :=
  ∀ (s : State) (i : StreamNo),
    (∀ p, s.openPage i = some p →
      s.syncPages i = (((s.closePage i).updPage p.ref fun q => { q with syncPoint := true }).updStream i
        fun t => { t with wait := .sync })) ∧
    (s.openPage i = none →
      (∀ p, (s.pages.filter fun q => decide (q.stream = i)).getLast? = some p →
        s.syncPages i = (s.updPage p.ref fun q => { q with syncPoint := true }).updStream i fun t => { t with wait := .sync }) ∧
      ((∀ p ∈ s.pages, p.stream ≠ i) →
        s.syncPages i = ((s.updStream i fun t => { t with syncsCompleted := t.syncsCompleted + 1 }).countCond i .syncDone).updStream i
          fun t => { t with wait := .none }))

/-! ### Placement and drawing -/

/-- Where a print position and a line stand on the sheet (R112, R113, R114), within the bounds of R115, the right edge of the last
position, and the cell size chosen at a page's open (R116). -/
def Obligations.PlacementOfPositionsAndLines : Prop :=
  ∀ (g : Geometry) (width length : Nat) (pitch : Pitch), 1 ≤ g.sx → 1 ≤ g.sy → 1 ≤ width → 1 ≤ length →
    let lpi := match pitch with | .six => 6 | .eight => 8
    (∀ p : Nat, 1 ≤ p → p ≤ width + 1 →
      (30 * width ≤ g.sx → placeX g width p = g.mx + 30 * (p - 1)) ∧
      (g.sx < 30 * width → placeX g width p = g.mx + (p - 1) * g.sx / width)) ∧
    (∀ l : Nat, 1 ≤ l → l ≤ length →
      (length * 300 ≤ g.sy * lpi → placeY g length pitch l = g.my + (l - 1) * 300 / lpi) ∧
      (g.sy * lpi < length * 300 → placeY g length pitch l = g.my + (l - 1) * g.sy / length)) ∧
    (∀ p : Nat, 1 ≤ p → p ≤ width → g.mx ≤ placeX g width p ∧ placeX g width p < g.mx + g.sx) ∧
    (∀ l : Nat, 1 ≤ l → l ≤ length → g.my ≤ placeY g length pitch l ∧ placeY g length pitch l < g.my + g.sy) ∧
    placeX g width (width + 1) ≤ g.mx + g.sx ∧
    (chooseCell g length pitch width = .condensed ↔
      g.sx < 24 * width ∨ pitch = .eight ∨ g.sy * 6 < length * 300 ∧ g.sy < 40 * length)

/-- What is black (R56, R57, R117, R118, R123, R141): a page's lines at a sheet dot, by each cell's base with its weight copies, its
over glyph and its underline, every glyph matrix but those of R57 being free (log entry 2); and an overlay entry with its copies. And
the cells that are clipped at the sheet (R119). -/
def Obligations.DrawingAndClipping : Prop :=
  (∀ (p : Page) (column row : Nat),
    let wide := match p.cellSize with | .standard => 24 | .condensed => 16
    let high := match p.cellSize with | .standard => 40 | .condensed => 26
    let matrix := fun (g : Glyph) (x y : Nat) =>
      x ≤ column ∧ column < x + wide ∧ y ≤ row ∧ row < y + high ∧ 32 < g.val ∧ g.val ≠ 127 ∧
      Config.glyphMatrix p.cellSize g (column - x) (row - y) = true
    linesInk p column row = true ↔
      ∃ l ∈ p.lines, ∃ (j : Nat) (c : LineCell), l.cells[j]? = some c ∧
        let x := placeX p.geometry p.width (j + 1)
        let y := placeY p.geometry p.length p.pitch l.line
        (∃ g k, c.base = some g ∧ k < c.weight ∧ matrix g (x + k) y) ∨ (∃ g, c.overGlyph = some g ∧ matrix g x y) ∨
        (c.underline = true ∧ x ≤ column ∧ column < placeX p.geometry p.width (j + 2) ∧ y + high - 2 ≤ row ∧ row < y + high)) ∧
  (∀ (e : OverlayEntry) (column row : Nat),
    e.ink column row = true ↔ ∃ i < e.repeatCount,
      let d := i * e.step
      match e.shape with
      | .hrule length thickness => e.x ≤ column ∧ column < e.x + length ∧ e.y + d ≤ row ∧ row < e.y + d + thickness
      | .vrule length thickness => e.x + d ≤ column ∧ column < e.x + d + thickness ∧ e.y ≤ row ∧ row < e.y + length
      | .band width height .half =>
        e.x ≤ column ∧ column < e.x + width ∧ e.y + d ≤ row ∧ row < e.y + d + height ∧ (column + row) % 2 = 0
      | .band width height .quarter =>
        e.x ≤ column ∧ column < e.x + width ∧ e.y + d ≤ row ∧ row < e.y + d + height ∧ column % 2 = 0 ∧ row % 2 = 0) ∧
  ∀ (p : Page) (sheetWidth sheetHeight : Nat), (∀ l ∈ p.lines, ∀ c ∈ l.cells, soundInk c.base c.overGlyph c.weight) →
    let wide := match p.cellSize with | .standard => 24 | .condensed => 16
    let high := match p.cellSize with | .standard => 40 | .condensed => 26
    pageClipped p sheetWidth sheetHeight = true ↔
      ∃ l ∈ p.lines, ∃ (j : Nat) (c : LineCell), l.cells[j]? = some c ∧
        let x := placeX p.geometry p.width (j + 1)
        let y := placeY p.geometry p.length p.pitch l.line
        let right := placeX p.geometry p.width (j + 2)
        (c.base ≠ none ∧ (sheetWidth < x + wide + (c.weight - 1) ∨ sheetHeight < y + high)) ∨
        (c.underline = true ∧ x < right ∧ (sheetWidth < right ∨ sheetHeight < y + high))

/-! ### The Sheet Imager -/

/-- SELECTION (R137 to R140, R133): while no buffer is RENDERING, one is FREE and the run state is not STOPPED, the head of the recovery
list, or else by imaging priority and round robin the earliest CLOSED page of a stream, becomes IMAGING in the first FREE buffer, which
records the tray's sheet size and whether the overlay slot is READY and joins the offer order last. Otherwise nothing is selected. The
moment is the command's (log entry 4), one at which nothing can be selected is none (log entry 8), and the buffer's dots are empty until
the rendering completes (log entry 20). -/
def Obligations.SelectionTakesTheNextPage : Prop :=
  ∀ (s : State),
    let idle := ∀ b : Fin 2, (s.buffer b).state ≠ .rendering
    let free := fun b : Fin 2 => (s.buffer b).state = .free ∧ (b = 1 → (s.buffer 0).state ≠ .free)
    let begun := fun (u : State) (b : Fin 2) (p : Page) =>
      let size := match p.tray with | .one => u.settings.tray1 | .two => u.settings.tray2
      let ready := match p.overlay with | some k => decide ((u.slot k).state = .ready) | none => false
      { u.updPage p.ref fun q => { q with state := .imaging } with
        buffers := u.buffers.set b
          { state := .rendering, page := some p.ref, width := size.width, height := size.height, overlayReady := ready, dots := [] }
        offer := u.offer ++ [b] }
    let candidate := fun (i : StreamNo) (p : Page) =>
      ∃ before after, s.pages = before ++ p :: after ∧ p.stream = i ∧ p.state = .closed ∧
        ∀ q ∈ before, q.stream = i → q.state ≠ .closed
    let number := fun i : StreamNo => (s.stream i).imagingPriority.val
    let turn := fun i : StreamNo => (i.val + 7 - s.imagerPointer.val) % 8
    (¬(idle ∧ s.run ≠ .stopped ∧ ∃ b, free b) → exec .selection s = .next s) ∧
    (s.recovery = [] → (∀ p ∈ s.pages, p.state ≠ .closed) → exec .selection s = .next s) ∧
    ∀ b : Fin 2, idle → s.run ≠ .stopped → free b →
      (∀ (r : PageRef) (rest : List PageRef) (p : Page), s.recovery = r :: rest → s.findPage r = some p →
        exec .selection s = .next (begun { s with recovery := rest } b p)) ∧
      ∀ (i : StreamNo) (p : Page), s.recovery = [] → candidate i p →
        (∀ j : StreamNo, j ≠ i → (∃ q, candidate j q) → number i < number j ∨ number i = number j ∧ turn i < turn j) →
        exec .selection s = .next (begun { s with imagerPointer := i } b p)

/-- RENDERING_COMPLETE (R141, R142, R120): the buffer's raster, of its recorded size, is black exactly where the overlay that was READY at
selection or the page's lines are; the buffer becomes READY; a page found clipped for the first time is marked and CLIPPED counted on its
stream. The list drawn is the slot's as it stands at the completion (log entry 20). With no rendering under way nothing completes (log
entry 8). -/
def Obligations.RenderingCompletes : Prop :=
  ∀ (s : State),
    ((∀ b : Fin 2, (s.buffer b).state ≠ .rendering) → exec .renderingComplete s = .next s) ∧
    ∀ (b : Fin 2) (r : PageRef) (p : Page), (s.buffer b).state = .rendering → (b = 1 → (s.buffer 0).state ≠ .rendering) →
      (s.buffer b).page = some r → s.findPage r = some p →
      let raster := s.buffer b
      let drawn := match p.overlay with | some k => if raster.overlayReady then (s.slot k).entries else [] | none => []
      let clipped := pageClipped p raster.width raster.height
      let marked := if clipped then s.updPage r fun q => { q with clipped := true } else s
      let counted := if clipped = true ∧ p.clipped = false then marked.countCond p.stream .clipped else marked
      ∃ dots : List (List Bool),
        exec .renderingComplete s
          = .next { counted with buffers := counted.buffers.set b { raster with state := .ready, dots := dots } } ∧
        dots.length = raster.height ∧ (∀ line ∈ dots, line.length = raster.width) ∧
        ∀ column < raster.width, ∀ row < raster.height,
          ((dots.getD row []).getD column false)
            = (drawn.any (fun e => e.ink column row) || linesInk p column row)

/-- The output raster format (R145): a row of dots is padded with white to the next multiple of 32, and each byte carries 8 consecutive
dots by the bit order and polarity in force. SEND_COMPLETE (R144, R156): the newest outstanding sheet is data complete, its rows have gone
out in that format (that it is the newest tag's: log entry 19), and the buffer returns to READY while copies remain to be issued, or
becomes FREE and leaves the offer order. With no send under way nothing completes (log entry 8). The rows sent are kept for observation
(log entry 5); a FREE buffer reads as empty (log entry 20). -/
def Obligations.SendCompletesInTheRasterFormat : Prop :=
  (∀ (e : EngineSettings) (dots : List (List Bool)),
    (sendRows e dots).length = dots.length ∧
    ∀ (n : Nat) (row : List Bool), dots[n]? = some row →
      ∃ out : List Byte, (sendRows e dots)[n]? = some out ∧ out.length = 4 * ((row.length + 31) / 32) ∧
        ∀ (k j : Nat) (b : Byte), out[k]? = some b → j < 8 →
          b.getLsbD (match e.bitOrder with | .leftmostInMsb => 7 - j | .leftmostInLsb => j) =
            match e.polarity with
            | .blackAsOne => (row[8 * k + j]?).getD false
            | .blackAsZero => !(row[8 * k + j]?).getD false) ∧
  ∀ (s : State),
    ((∀ b : Fin 2, (s.buffer b).state ≠ .sending) → exec .sendComplete s = .next s) ∧
    ∀ (b : Fin 2) (r : PageRef) (p : Page), (s.buffer b).state = .sending → (b = 1 → (s.buffer 0).state ≠ .sending) →
      (s.buffer b).page = some r → s.findPage r = some p →
      let sent : State := { s with
        ring := s.ring.modify (tagIndex (s.issue - 1)) fun e => e.map fun t => { t with dataComplete := true }
        sentRows := sendRows s.settings (s.buffer b).dots }
      (p.copiesIssued < p.copies →
        exec .sendComplete s = .next { sent with buffers := s.buffers.set b { s.buffer b with state := .ready } }) ∧
      (p.copies ≤ p.copiesIssued →
        exec .sendComplete s = .next { sent with
          buffers := s.buffers.set b { state := .free, page := none, width := 0, height := 0, overlayReady := false, dots := [] }
          offer := s.offer.filter fun c => decide (c ≠ b) })

/-! ### The Engine Link -/

/-- SHEET (R155, R101, R149, R159): in RUN, the engine READY and the outstanding count below the path depth, the READY head of the offer
order is issued under the issue counter's tag. Where one of the conditions fails no copy is issued. The outstanding count is the issue
counter minus the confirm counter, modulo 16 (R154). -/
def Obligations.SheetIsIssuedFromTheHead : Prop :=
  ∀ (s : State),
    let may := s.run = .run ∧ s.engineReady = true ∧ s.outstanding < s.settings.pathDepth
    s.outstanding = (s.issue.toNat + 16 - s.confirm.toNat) % 16 ∧
    (¬(may ∧ ∃ b, s.offer.head? = some b ∧ (s.buffer b).state = .ready) → exec .sheet s = .next s) ∧
    ∀ (b : Fin 2) (r : PageRef) (p : Page), may → s.offer.head? = some b → (s.buffer b).state = .ready →
      (s.buffer b).page = some r → s.findPage r = some p →
      exec .sheet s = .next
        { s.updPage r fun q => { q with copiesIssued := q.copiesIssued + 1, state := .issued } with
          buffers := s.buffers.set b { s.buffer b with state := .sending }
          ring := s.ring.set (tagIndex s.issue) (some { page := r, dataComplete := false })
          issue := s.issue + 1
          stackTimer := if s.outstanding = 0 then some s.settings.stackTimeout else s.stackTimer
          request := some { tag := s.issue, tray := p.tray, stacker := p.stacker, width := (s.buffer b).width,
                            height := (s.buffer b).height } }

/-- A page becomes STACKED (R101, R98, R100, R83, R128): its marks are delivered in attachment order, pages-stacked advances, a SYNC its
stream waits for completes, its record is freed, and every STORE wait and every PIN wait on a slot no page names any more ends. -/
def Obligations.StackedPageIsFreed : Prop :=
  ∀ (s : State) (p : Page),
    let told := (p.marks.foldl (fun u id => u.deliverMark p.stream id p.number p.stacker) s).updStream p.stream
      fun t => { t with pagesStacked := t.pagesStacked + 1 }
    let synced :=
      if p.syncPoint = true ∧ (s.stream p.stream).wait = .sync then
        ((told.updStream p.stream fun t => { t with syncsCompleted := t.syncsCompleted + 1 }).countCond p.stream .syncDone).updStream
          p.stream fun t => { t with wait := .none }
      else told
    let left := s.pages.filter fun q => decide (q.ref ≠ p.ref)
    s.stackPage p = { synced with
      pages := left
      streams := synced.streams.map fun t =>
        match t.wait with
        | .store => { t with wait := .none }
        | .pin k => if left.any (fun q => decide (q.overlay = some k)) then t else { t with wait := .none }
        | _ => t }

/-- STACKED for the oldest outstanding sheet, its data complete (R157, R101, R159, R186): it is confirmed, the total rises, a copy of its
page is stacked, the timer restarts or stops, and STOPPING with nothing outstanding and no taking under way gives way to STOPPED. Where
its page is gone from the store, in a state no run reaches, no copy is stacked (log entry 27). -/
def Obligations.StackedConfirmsTheOldest : Prop :=
  ∀ (s : State) (e : TagEntry), 1 ≤ s.outstanding → s.ring.get (tagIndex s.confirm) = some e → e.dataComplete = true →
    let taken : State := { s with
      confirm := s.confirm + 1, ring := s.ring.set (tagIndex s.confirm) none, sheetsStacked := s.sheetsStacked + 1 }
    let risen := taken.updPage e.page fun q => { q with copiesStacked := q.copiesStacked + 1 }
    let timed := fun u : State =>
      let v : State := { u with stackTimer := if s.outstanding = 1 then none else some s.settings.stackTimeout }
      if s.outstanding = 1 ∧ s.run = .stopping ∧ s.taking = none then
        { v with run := .stopped, ports := v.ports.map fun q => { q with causes := { q.causes with run := true } } }
      else v
    (s.findPage e.page = none → exec (.stacked s.confirm) s = .next (timed taken)) ∧
    ∀ p, s.findPage e.page = some p →
      (p.copiesStacked + 1 < p.copies → exec (.stacked s.confirm) s = .next (timed risen)) ∧
      (p.copies ≤ p.copiesStacked + 1 → exec (.stacked s.confirm) s = .next (timed (risen.stackPage p)))

/-- A device condition and an engine cause (R164, R167, R179): the kind joins both ports' sets, at its bit of byte 16 of the DEVICE frame
(R183), with the device cause; RUN and STOPPING
become CHECK, which puts the run-state cause in both sets; in CHECK a cause of JAM stays and another is replaced; STOPPED stays. And the
jam-class events (R158, R160, R161, R165): JAM, a running stack timer's expiry, a STACKED out of order or during its send, and RESTARTED,
which also makes the readiness NOT READY. A timer that is not running does not expire. -/
def Obligations.JamClassEventsAndEngineCauses : Prop :=
  let place : DevCond → Fin 7 := fun
    | .jam => 0 | .stackTimeout => 1 | .lateStack => 2 | .sequence => 3 | .trayEmpty => 4 | .stackerFull => 5 | .engineNotReady => 6
  (∀ s : State,
    (∀ d : DevCond, s.deviceCond d = { s with
      ports := s.ports.map fun q =>
        { q with deviceSet := q.deviceSet.set (place d) true, causes := { q.causes with device := true } } }) ∧
    ∀ c : Cause,
      ((s.run = .run ∨ s.run = .stopping) →
        s.engineCause c = { s with
          run := .check, cause := c, ports := s.ports.map fun q => { q with causes := { q.causes with run := true } } }) ∧
      (s.run = .check → s.engineCause c = if s.cause = .jam then s else { s with cause := c }) ∧
      (s.run = .stopped → s.engineCause c = s)) ∧
  ∀ s : State,
    exec .jam s = .next ((s.recover.deviceCond .jam).engineCause .jam) ∧
    exec .restarted s = .next ((({ s.recover with engineReady := false } : State).deviceCond .engineNotReady).engineCause .engineRestart) ∧
    (s.stackTimer = none → exec .stackTimeout s = .next s) ∧
    (s.stackTimer ≠ none → exec .stackTimeout s = .next ((s.recover.deviceCond .stackTimeout).engineCause .jam)) ∧
    ∀ tag : BitVec 4,
      (tag - s.confirm).toNat < s.outstanding →
      (tag ≠ s.confirm ∨ ∀ e, s.ring.get (tagIndex tag) = some e → e.dataComplete = false) →
      exec (.stacked tag) s = .next ((s.recover.deviceCond .sequence).engineCause .jam)

/-- The state a jam-class event leaves before its condition and run state (R161, R162, R146): the outstanding sheets, whose ring entries run
from the confirm counter on, one for each of the outstanding count (R154), are lost, their pages
CLOSED with the copies not stacked to be issued again and placed once each, in issue order, at the head of the recovery list; buffers
that are SENDING, or READY with a lost page, are freed; a buffer whose IMAGING page's stream has a page on the list is withdrawn, and
its page put back on the list where a later page of its stream is on it (log entry 24). A FREE buffer reads as empty (log entry 20). -/
def Obligations.JamRecovery : Prop :=
  ∀ s : State,
    let sheets := (List.range ((s.issue.toNat + 16 - s.confirm.toNat) % 16)).filterMap fun k =>
      (s.ring.get (Fin.ofNat 16 (s.confirm.toNat + k))).map fun e => e.page
    let lost := sheets.reverse.dedup.reverse
    let before := s.recovery.filter fun r => decide (r ∉ lost)
    let withdrawn := fun b : Fin 2 =>
      match (s.buffer b).page.bind s.findPage with
      | some p =>
        decide (((s.buffer b).state = .rendering ∨ (s.buffer b).state = .ready) ∧ p.ref ∉ lost ∧ p.state = .imaging)
          && (lost ++ before).any fun q => decide (q.stream = p.stream)
      | none => false
    let freed := fun b : Fin 2 =>
      decide ((s.buffer b).state = .sending) ||
        decide ((s.buffer b).state = .ready) && lost.any fun q => decide ((s.buffer b).page = some q)
    let later := fun r : PageRef =>
      ((s.pages.dropWhile fun q => decide (q.ref ≠ r)).drop 1).any fun q =>
        decide (q.stream = r.stream) && decide (q.ref ∈ lost ++ before)
    let back := s.offer.filterMap fun b => if withdrawn b then (s.buffer b).page.filter later else none
    s.recover = { s with
      pages := s.pages.map fun p =>
        if p.ref ∈ lost then { p with copiesIssued := p.copiesStacked, state := .closed }
        else if ([0, 1] : List (Fin 2)).any fun b => withdrawn b && decide ((s.buffer b).page = some p.ref) then
          { p with state := .closed }
        else p
      recovery := lost ++ back ++ before
      confirm := s.issue
      ring := .replicate 16 none
      stackTimer := none
      buffers := s.buffers.mapIdx fun b r =>
        if freed b || withdrawn b then
          { state := .free, page := none, width := 0, height := 0, overlayReady := false, dots := [] }
        else r
      offer := s.offer.filter fun b => !(freed b || withdrawn b) }

/-- The reports that lose nothing (R149, R150, R158, R165, R166): NOT READY, TRAY EMPTY and STACKER FULL of either number, READY in each
run state and cause, a late STACKED, and an unrecognised report. A tray or stacker number other than 1 and 2 makes the report an
unrecognised one (log entry 10). -/
def Obligations.ReportsOfTheEngine : Prop :=
  ∀ s : State,
    let unready : State := { s with engineReady := false }
    exec .notReady s = .next ((unready.deviceCond .engineNotReady).engineCause .notReady) ∧
    (∀ n : Nat,
      ((n = 1 ∨ n = 2) →
        exec (.trayEmpty n) s = .next ((unready.deviceCond .trayEmpty).engineCause .trayEmpty) ∧
        exec (.stackerFull n) s = .next ((unready.deviceCond .stackerFull).engineCause .stackerFull)) ∧
      (n ≠ 1 → n ≠ 2 → exec (.trayEmpty n) s = .next s ∧ exec (.stackerFull n) s = .next s)) ∧
    ((s.run = .check ∧ (s.cause = .notReady ∨ s.cause = .trayEmpty ∨ s.cause = .stackerFull ∨ s.cause = .engineRestart)) →
      exec .ready s = .next { s with engineReady := true, run := .run }) ∧
    (¬(s.run = .check ∧ (s.cause = .notReady ∨ s.cause = .trayEmpty ∨ s.cause = .stackerFull ∨ s.cause = .engineRestart)) →
      exec .ready s = .next { s with engineReady := true }) ∧
    (∀ tag : BitVec 4, s.outstanding ≤ (tag - s.confirm).toNat → exec (.stacked tag) s = .next (s.deviceCond .lateStack)) ∧
    ∀ code : Byte, exec (.unrecognisedReport code) s = .next s

/-! ### The panel -/

/-- The keys at a sample and the command they give (R188, R189): a key's state changes when two consecutive samples agree against it; a
key presses at the sample at which it becomes PRESSED, and is held where it was PRESSED before and stays so (log entry 7). The command
is START, STOP with cause PANEL, or PURGE by the table of R189, or none, each with the keys' new states (R185, R187, R190). A sample at
which the keys give another command is another row's and changes nothing (log entry 8). -/
def Obligations.KeysGiveACommand : Prop :=
  (∀ (k : Keys) (r : KeySample),
    let one := fun (key : Key) (raw : Bool) =>
      ({ pressed := if key.raw = raw then raw else key.pressed, raw := raw } : Key)
    let presses := fun (key : Key) (raw : Bool) => key.pressed = false ∧ key.raw = true ∧ raw = true
    let held := fun (key : Key) (raw : Bool) => key.pressed = true ∧ (key.raw = true ∨ raw = true)
    let start := presses k.start r.start
    let stop := presses k.stop r.stop
    let reset := presses k.reset r.reset
    k.sample r = { start := one k.start r.start, stop := one k.stop r.stop, reset := one k.reset r.reset } ∧
    (k.command r = .purge ↔ start ∧ ¬ stop ∧ (held k.reset r.reset ∨ reset)) ∧
    (k.command r = .start ↔ start ∧ ¬ stop ∧ ¬ reset ∧ ¬ held k.reset r.reset ∧ ¬ held k.stop r.stop) ∧
    (k.command r = .stop ↔ stop ∧ ¬ reset ∧ ¬ held k.reset r.reset ∧ ¬ held k.start r.start)) ∧
  ∀ (s : State) (k : KeySample),
    let sampled : State := { s with keys := s.keys.sample k }
    (s.keys.command k = .start → exec (.panelStart k) s = .next sampled.start) ∧
    (s.keys.command k = .stop → exec (.panelStop k) s = .next (sampled.stopRequest .panel)) ∧
    (s.keys.command k = .purge → exec (.purge k) s = .next sampled.purge) ∧
    (s.keys.command k = .none → exec (.keySample k) s = .next sampled) ∧
    (s.keys.command k ≠ .start → exec (.panelStart k) s = .next s) ∧
    (s.keys.command k ≠ .stop → exec (.panelStop k) s = .next s) ∧
    (s.keys.command k ≠ .purge → exec (.purge k) s = .next s) ∧
    (s.keys.command k ≠ .none → exec (.keySample k) s = .next s)

/-- PURGE (R190, R104, R134, R147, R168): ignored in RUN and STOPPING. In STOPPED and CHECK every bound stream is cancelled and stays
bound, a taking under way ends without effect, every page is discarded, the recovery list, the tags, the timer and the buffers are
cleared, every open load of a bound stream is abandoned, and the run state becomes STOPPED with cause PURGE, with its cause in both ports'
sets. All else keeps its value, but for the waits of streams that are not bound, which end as they do at a CANCEL (R82, R83, R128; log
entry 16). A FREE buffer reads as empty (log entry 20). -/
def Obligations.PurgeClearsTheDevice : Prop :=
  ∀ s : State,
    ((s.run = .run ∨ s.run = .stopping) → s.purge = s) ∧
    ((s.run = .stopped ∨ s.run = .check) →
      ∃ t, s.purge = t ∧
        (∀ i : StreamNo, (s.stream i).binding ≠ none →
          t.stream i = { s.stream i with
            queue := [], buffer := none, pageAge := .stopped, fenceClaim := none, wait := .none, lastLined := none
            carriage := { form := 0, width := 132, pending := none, line := 1, sequence := 1, started := false } }) ∧
        (∀ j : StreamNo, (s.stream j).binding = none →
          { t.stream j with wait := .none } = { s.stream j with wait := .none } ∧
          (t.stream j).wait =
            match (s.stream j).wait with
            | .store => if s.pages = [] then .store else .none
            | .pin k => if s.pages = [] then .pin k else .none
            | .fence k =>
              if (∃ i : StreamNo, (s.stream i).binding ≠ none ∧ ∃ b ∈ (s.stream i).buffer, b.tableSet = k) ∧
                (∀ m : StreamNo, m ≠ j → ∀ b ∈ (t.stream m).buffer, b.tableSet ≠ k) then .none else .fence k
            | w => w) ∧
        (∀ k : Fin 8, t.slot k =
          if ∃ i : StreamNo, (s.stream i).binding ≠ none ∧ s.openLoad i = some k then { s.slot k with state := .empty }
          else s.slot k) ∧
        t = { s with
          streams := t.streams
          overlays := t.overlays
          taking := none
          pages := []
          recovery := []
          confirm := s.issue
          ring := .replicate 16 none
          stackTimer := none
          buffers := .replicate 2 { state := .free, page := none, width := 0, height := 0, overlayReady := false, dots := [] }
          offer := []
          run := .stopped
          cause := .purge
          ports := s.ports.map fun q => { q with causes := { q.causes with run := true } } })

/-! ### The laws every step keeps -/

/-- R20: "The spool holds at most 2048 records, and no stream's queue holds more records than its quota." -/
def Obligations.EveryStepKeepsTheSpoolLaw : Prop :=
  ∀ s t : State, s.SpoolLaw → step s = .next t → t.SpoolLaw

/-- R46: the pair tables keep ascending key order, with no two entries of one key and at most 128 of them. -/
def Obligations.EveryStepKeepsThePairLaw : Prop :=
  ∀ s t : State, s.PairLaw → step s = .next t → t.PairLaw

/-- R69 and R65: in every cell with a base glyph the weight is 1, 2 or 3, and an over glyph stands only beside a base; in every buffer
and in every line in the Page Store. -/
def Obligations.EveryStepKeepsTheCellLaw : Prop :=
  ∀ s t : State, s.CellLaw → step s = .next t → t.CellLaw

/-- R86, R88, R64: at most 64 page records, no more lines and reservations than line slots, at most one open page a stream. -/
def Obligations.EveryStepKeepsTheStoreLaw : Prop :=
  ∀ s t : State, s.StoreLaw → step s = .next t → t.StoreLaw

/-- R154, R144 and R184: the outstanding sheets never exceed the path depth, a buffer that is SENDING is the head and its copy outstanding,
and in STOPPED no sheet is outstanding and no raster buffer is SENDING. -/
def Obligations.EveryStepKeepsTheEngineLaw : Prop :=
  ∀ s t : State, s.EngineLaw → step s = .next t → t.EngineLaw

/-- R76 and R186: in STOPPED no taking is under way, and STOPPING lasts only while a sheet is outstanding or a taking is under way; the
stream being taken from stays bound with the record at the head of its queue (R59). -/
def Obligations.EveryStepKeepsTheRestLaw : Prop :=
  ∀ s t : State, s.RestLaw → step s = .next t → t.RestLaw

/-- Power-on reset meets all six laws. -/
def Obligations.ResetMeetsTheLaws : Prop :=
  State.reset.SpoolLaw ∧ State.reset.PairLaw ∧ State.reset.CellLaw ∧ State.reset.StoreLaw ∧ State.reset.EngineLaw ∧ State.reset.RestLaw

/-- R132: "An overlay slot's entry list does not change while its pin count is above zero", whatever the command. Applying power, which
also discards every page, is not such a change. -/
def Obligations.PinnedOverlayListsDoNotChange : Prop :=
  ∀ (c : Instr) (s t : State) (k : Fin 8), c ≠ .powerOnReset → 1 ≤ s.pinCount k → exec c s = .next t →
    (t.slot k).entries = (s.slot k).entries

/-- R80: "A table set's translate and pair tables do not change while any stream other than the loading stream has an open assembly
buffer on that set": where a command other than power-on changes a set, no stream but the granted one has a buffer on it. -/
def Obligations.TablesChangeOnlyUnderTheFence : Prop :=
  ∀ (c : Instr) (s t : State) (k : Fin 2), c ≠ .powerOnReset → exec c s = .next t → t.tables.get k ≠ s.tables.get k →
    ∃ i r, s.grant = some (i, r) ∧ ∀ j : StreamNo, j ≠ i → ∀ b, (s.stream j).buffer = some b → b.tableSet ≠ k

/-- A record on a port cannot reach a stream bound to the other port (R6, R10, R14, R103, R128, R134): whatever the bytes, that stream
keeps its queue, its settings, its carriage and its attributes, its buffer and its counters, the record being taken from it, its pages in
the store with their places on the recovery list, and the slot it is loading; only its STREAM BUSY count may rise and its waits may end.
Nor do the other port's line, record and answer change. -/
def Obligations.RecordsReachOnlyTheirPortsStreams : Prop :=
  ∀ (s t : State) (p q : Port) (cls : Nat) (c : Instr) (i : StreamNo), (cls, c) ∈ recordCommands p → q ≠ p →
    (s.stream i).binding = some q → exec c s = .next t →
    { t.stream i with wait := .none, counts := .replicate 21 0 } = { s.stream i with wait := .none, counts := .replicate 21 0 } ∧
    (∀ k : Fin 21, k ≠ 2 → (t.stream i).counts.get k = (s.stream i).counts.get k) ∧
    ((t.stream i).wait = (s.stream i).wait ∨ (t.stream i).wait = .none) ∧
    (s.taking = some (.granted i) ↔ t.taking = some (.granted i)) ∧
    (t.pages.filter fun g => decide (g.stream = i)) = (s.pages.filter fun g => decide (g.stream = i)) ∧
    (t.recovery.filter fun g => decide (g.stream = i)) = (s.recovery.filter fun g => decide (g.stream = i)) ∧
    (∀ k : Fin 8, (s.slot k).state = .loading i ∨ (t.slot k).state = .loading i → t.slot k = s.slot k) ∧
    { t.port q with causes := Causes.empty } = { s.port q with causes := Causes.empty }
end

