-- ==== Sys2Proof/Laws/Bank.lean ====
section
/-! SUPPORT. Reading a bank after each of its operations, and when two banks are equal. -/

namespace Sys2Proof

variable {α β : Type} {n : Nat}

/-- Two banks are equal when they hold the same things at every number. -/
theorem Bank.ext_get {b c : Bank α n} (h : ∀ i, b.get i = c.get i) : b = c := by
  obtain ⟨bs, hb⟩ := b
  obtain ⟨cs, hc⟩ := c
  have : bs = cs := by
    apply List.ext_getElem (by omega)
    intro i h1 h2
    exact h ⟨i, by omega⟩
  subst this
  rfl

theorem Bank.get_set (b : Bank α n) (i j : Fin n) (a : α) :
    (b.set i a).get j = if i = j then a else b.get j := by
  simp [Bank.get, Bank.set, List.getElem_set, Fin.ext_iff]

@[simp] theorem Bank.get_set_self (b : Bank α n) (i : Fin n) (a : α) : (b.set i a).get i = a := by
  simp [Bank.get_set]

theorem Bank.get_set_ne (b : Bank α n) {i j : Fin n} (a : α) (h : i ≠ j) : (b.set i a).get j = b.get j := by
  simp [Bank.get_set, h]

theorem Bank.get_modify (b : Bank α n) (i j : Fin n) (f : α → α) :
    (b.modify i f).get j = if i = j then f (b.get j) else b.get j := by
  unfold Bank.modify
  rw [Bank.get_set]
  split
  · subst_vars; rfl
  · rfl

@[simp] theorem Bank.get_modify_self (b : Bank α n) (i : Fin n) (f : α → α) : (b.modify i f).get i = f (b.get i) := by
  simp [Bank.get_modify]

theorem Bank.get_modify_ne (b : Bank α n) {i j : Fin n} (f : α → α) (h : i ≠ j) : (b.modify i f).get j = b.get j := by
  simp [Bank.get_modify, h]

@[simp] theorem Bank.get_map (b : Bank α n) (f : α → β) (i : Fin n) : (b.map f).get i = f (b.get i) := by
  simp [Bank.get, Bank.map]

@[simp] theorem Bank.get_ofFn (f : Fin n → α) (i : Fin n) : (Bank.ofFn f).get i = f i := by
  simp [Bank.get, Bank.ofFn]

@[simp] theorem Bank.get_mapIdx (b : Bank α n) (f : Fin n → α → β) (i : Fin n) :
    (b.mapIdx f).get i = f i (b.get i) := by
  simp [Bank.mapIdx]

@[simp] theorem Bank.get_replicate (a : α) (i : Fin n) : (Bank.replicate n a).get i = a := by
  simp [Bank.get, Bank.replicate]

theorem Bank.modify_modify (b : Bank α n) (i : Fin n) (f g : α → α) :
    (b.modify i f).modify i g = b.modify i (fun a => g (f a)) := by
  apply Bank.ext_get
  intro j
  simp only [Bank.get_modify]
  split <;> rfl

theorem Bank.modify_comm (b : Bank α n) {i j : Fin n} (h : i ≠ j) (f g : α → α) :
    (b.modify i f).modify j g = (b.modify j g).modify i f := by
  apply Bank.ext_get
  intro k
  simp only [Bank.get_modify]
  split <;> split <;> simp_all

/-- A thing of a bank is one of its list. -/
theorem Bank.get_mem (b : Bank α n) (i : Fin n) : b.get i ∈ b.items := List.getElem_mem _

/-- A thing of a bank's list stands at some number. -/
theorem Bank.exists_get_of_mem (b : Bank α n) {a : α} (h : a ∈ b.items) : ∃ i, b.get i = a := by
  obtain ⟨k, hk, rfl⟩ := List.mem_iff_getElem.mp h
  exact ⟨⟨k, by rw [← b.size]; exact hk⟩, rfl⟩

end Sys2Proof
end

