-- ==== Sys2Proof/Laws/State.lean ====
section
/-! SUPPORT. The named updates of State, field by field: what each writes, and that it writes nothing else. -/

namespace Sys2Proof.Machine

@[simp] theorem State.updPort_pending (s : State) (p : Port) (f : PortState → PortState) :
    (s.updPort p f).pending = s.pending := rfl
@[simp] theorem State.updPort_ports (s : State) (p : Port) (f : PortState → PortState) :
    (s.updPort p f).ports = s.ports.modify (portIndex p) f := rfl
@[simp] theorem State.updPort_streams (s : State) (p : Port) (f : PortState → PortState) :
    (s.updPort p f).streams = s.streams := rfl
@[simp] theorem State.updPort_forms (s : State) (p : Port) (f : PortState → PortState) :
    (s.updPort p f).forms = s.forms := rfl
@[simp] theorem State.updPort_tables (s : State) (p : Port) (f : PortState → PortState) :
    (s.updPort p f).tables = s.tables := rfl
@[simp] theorem State.updPort_composerPointer (s : State) (p : Port) (f : PortState → PortState) :
    (s.updPort p f).composerPointer = s.composerPointer := rfl
@[simp] theorem State.updPort_taking (s : State) (p : Port) (f : PortState → PortState) :
    (s.updPort p f).taking = s.taking := rfl
@[simp] theorem State.updPort_pages (s : State) (p : Port) (f : PortState → PortState) :
    (s.updPort p f).pages = s.pages := rfl
@[simp] theorem State.updPort_pagesOpened (s : State) (p : Port) (f : PortState → PortState) :
    (s.updPort p f).pagesOpened = s.pagesOpened := rfl
@[simp] theorem State.updPort_geometry (s : State) (p : Port) (f : PortState → PortState) :
    (s.updPort p f).geometry = s.geometry := rfl
@[simp] theorem State.updPort_overlays (s : State) (p : Port) (f : PortState → PortState) :
    (s.updPort p f).overlays = s.overlays := rfl
@[simp] theorem State.updPort_buffers (s : State) (p : Port) (f : PortState → PortState) :
    (s.updPort p f).buffers = s.buffers := rfl
@[simp] theorem State.updPort_offer (s : State) (p : Port) (f : PortState → PortState) :
    (s.updPort p f).offer = s.offer := rfl
@[simp] theorem State.updPort_imagerPointer (s : State) (p : Port) (f : PortState → PortState) :
    (s.updPort p f).imagerPointer = s.imagerPointer := rfl
@[simp] theorem State.updPort_settings (s : State) (p : Port) (f : PortState → PortState) :
    (s.updPort p f).settings = s.settings := rfl
@[simp] theorem State.updPort_engineReady (s : State) (p : Port) (f : PortState → PortState) :
    (s.updPort p f).engineReady = s.engineReady := rfl
@[simp] theorem State.updPort_issue (s : State) (p : Port) (f : PortState → PortState) :
    (s.updPort p f).issue = s.issue := rfl
@[simp] theorem State.updPort_confirm (s : State) (p : Port) (f : PortState → PortState) :
    (s.updPort p f).confirm = s.confirm := rfl
@[simp] theorem State.updPort_ring (s : State) (p : Port) (f : PortState → PortState) :
    (s.updPort p f).ring = s.ring := rfl
@[simp] theorem State.updPort_stackTimer (s : State) (p : Port) (f : PortState → PortState) :
    (s.updPort p f).stackTimer = s.stackTimer := rfl
@[simp] theorem State.updPort_recovery (s : State) (p : Port) (f : PortState → PortState) :
    (s.updPort p f).recovery = s.recovery := rfl
@[simp] theorem State.updPort_sheetsStacked (s : State) (p : Port) (f : PortState → PortState) :
    (s.updPort p f).sheetsStacked = s.sheetsStacked := rfl
@[simp] theorem State.updPort_request (s : State) (p : Port) (f : PortState → PortState) :
    (s.updPort p f).request = s.request := rfl
@[simp] theorem State.updPort_sentRows (s : State) (p : Port) (f : PortState → PortState) :
    (s.updPort p f).sentRows = s.sentRows := rfl
@[simp] theorem State.updPort_run (s : State) (p : Port) (f : PortState → PortState) :
    (s.updPort p f).run = s.run := rfl
@[simp] theorem State.updPort_cause (s : State) (p : Port) (f : PortState → PortState) :
    (s.updPort p f).cause = s.cause := rfl
@[simp] theorem State.updPort_keys (s : State) (p : Port) (f : PortState → PortState) :
    (s.updPort p f).keys = s.keys := rfl

@[simp] theorem State.updStream_pending (s : State) (i : StreamNo) (f : Stream → Stream) :
    (s.updStream i f).pending = s.pending := rfl
@[simp] theorem State.updStream_ports (s : State) (i : StreamNo) (f : Stream → Stream) :
    (s.updStream i f).ports = s.ports := rfl
@[simp] theorem State.updStream_streams (s : State) (i : StreamNo) (f : Stream → Stream) :
    (s.updStream i f).streams = s.streams.modify i f := rfl
@[simp] theorem State.updStream_forms (s : State) (i : StreamNo) (f : Stream → Stream) :
    (s.updStream i f).forms = s.forms := rfl
@[simp] theorem State.updStream_tables (s : State) (i : StreamNo) (f : Stream → Stream) :
    (s.updStream i f).tables = s.tables := rfl
@[simp] theorem State.updStream_composerPointer (s : State) (i : StreamNo) (f : Stream → Stream) :
    (s.updStream i f).composerPointer = s.composerPointer := rfl
@[simp] theorem State.updStream_taking (s : State) (i : StreamNo) (f : Stream → Stream) :
    (s.updStream i f).taking = s.taking := rfl
@[simp] theorem State.updStream_pages (s : State) (i : StreamNo) (f : Stream → Stream) :
    (s.updStream i f).pages = s.pages := rfl
@[simp] theorem State.updStream_pagesOpened (s : State) (i : StreamNo) (f : Stream → Stream) :
    (s.updStream i f).pagesOpened = s.pagesOpened := rfl
@[simp] theorem State.updStream_geometry (s : State) (i : StreamNo) (f : Stream → Stream) :
    (s.updStream i f).geometry = s.geometry := rfl
@[simp] theorem State.updStream_overlays (s : State) (i : StreamNo) (f : Stream → Stream) :
    (s.updStream i f).overlays = s.overlays := rfl
@[simp] theorem State.updStream_buffers (s : State) (i : StreamNo) (f : Stream → Stream) :
    (s.updStream i f).buffers = s.buffers := rfl
@[simp] theorem State.updStream_offer (s : State) (i : StreamNo) (f : Stream → Stream) :
    (s.updStream i f).offer = s.offer := rfl
@[simp] theorem State.updStream_imagerPointer (s : State) (i : StreamNo) (f : Stream → Stream) :
    (s.updStream i f).imagerPointer = s.imagerPointer := rfl
@[simp] theorem State.updStream_settings (s : State) (i : StreamNo) (f : Stream → Stream) :
    (s.updStream i f).settings = s.settings := rfl
@[simp] theorem State.updStream_engineReady (s : State) (i : StreamNo) (f : Stream → Stream) :
    (s.updStream i f).engineReady = s.engineReady := rfl
@[simp] theorem State.updStream_issue (s : State) (i : StreamNo) (f : Stream → Stream) :
    (s.updStream i f).issue = s.issue := rfl
@[simp] theorem State.updStream_confirm (s : State) (i : StreamNo) (f : Stream → Stream) :
    (s.updStream i f).confirm = s.confirm := rfl
@[simp] theorem State.updStream_ring (s : State) (i : StreamNo) (f : Stream → Stream) :
    (s.updStream i f).ring = s.ring := rfl
@[simp] theorem State.updStream_stackTimer (s : State) (i : StreamNo) (f : Stream → Stream) :
    (s.updStream i f).stackTimer = s.stackTimer := rfl
@[simp] theorem State.updStream_recovery (s : State) (i : StreamNo) (f : Stream → Stream) :
    (s.updStream i f).recovery = s.recovery := rfl
@[simp] theorem State.updStream_sheetsStacked (s : State) (i : StreamNo) (f : Stream → Stream) :
    (s.updStream i f).sheetsStacked = s.sheetsStacked := rfl
@[simp] theorem State.updStream_request (s : State) (i : StreamNo) (f : Stream → Stream) :
    (s.updStream i f).request = s.request := rfl
@[simp] theorem State.updStream_sentRows (s : State) (i : StreamNo) (f : Stream → Stream) :
    (s.updStream i f).sentRows = s.sentRows := rfl
@[simp] theorem State.updStream_run (s : State) (i : StreamNo) (f : Stream → Stream) :
    (s.updStream i f).run = s.run := rfl
@[simp] theorem State.updStream_cause (s : State) (i : StreamNo) (f : Stream → Stream) :
    (s.updStream i f).cause = s.cause := rfl
@[simp] theorem State.updStream_keys (s : State) (i : StreamNo) (f : Stream → Stream) :
    (s.updStream i f).keys = s.keys := rfl

@[simp] theorem State.updPage_pending (s : State) (r : PageRef) (f : Page → Page) :
    (s.updPage r f).pending = s.pending := rfl
@[simp] theorem State.updPage_ports (s : State) (r : PageRef) (f : Page → Page) :
    (s.updPage r f).ports = s.ports := rfl
@[simp] theorem State.updPage_streams (s : State) (r : PageRef) (f : Page → Page) :
    (s.updPage r f).streams = s.streams := rfl
@[simp] theorem State.updPage_forms (s : State) (r : PageRef) (f : Page → Page) :
    (s.updPage r f).forms = s.forms := rfl
@[simp] theorem State.updPage_tables (s : State) (r : PageRef) (f : Page → Page) :
    (s.updPage r f).tables = s.tables := rfl
@[simp] theorem State.updPage_composerPointer (s : State) (r : PageRef) (f : Page → Page) :
    (s.updPage r f).composerPointer = s.composerPointer := rfl
@[simp] theorem State.updPage_taking (s : State) (r : PageRef) (f : Page → Page) :
    (s.updPage r f).taking = s.taking := rfl
@[simp] theorem State.updPage_pages (s : State) (r : PageRef) (f : Page → Page) :
    (s.updPage r f).pages = s.pages.map fun p => if p.ref = r then f p else p := rfl
@[simp] theorem State.updPage_pagesOpened (s : State) (r : PageRef) (f : Page → Page) :
    (s.updPage r f).pagesOpened = s.pagesOpened := rfl
@[simp] theorem State.updPage_geometry (s : State) (r : PageRef) (f : Page → Page) :
    (s.updPage r f).geometry = s.geometry := rfl
@[simp] theorem State.updPage_overlays (s : State) (r : PageRef) (f : Page → Page) :
    (s.updPage r f).overlays = s.overlays := rfl
@[simp] theorem State.updPage_buffers (s : State) (r : PageRef) (f : Page → Page) :
    (s.updPage r f).buffers = s.buffers := rfl
@[simp] theorem State.updPage_offer (s : State) (r : PageRef) (f : Page → Page) :
    (s.updPage r f).offer = s.offer := rfl
@[simp] theorem State.updPage_imagerPointer (s : State) (r : PageRef) (f : Page → Page) :
    (s.updPage r f).imagerPointer = s.imagerPointer := rfl
@[simp] theorem State.updPage_settings (s : State) (r : PageRef) (f : Page → Page) :
    (s.updPage r f).settings = s.settings := rfl
@[simp] theorem State.updPage_engineReady (s : State) (r : PageRef) (f : Page → Page) :
    (s.updPage r f).engineReady = s.engineReady := rfl
@[simp] theorem State.updPage_issue (s : State) (r : PageRef) (f : Page → Page) :
    (s.updPage r f).issue = s.issue := rfl
@[simp] theorem State.updPage_confirm (s : State) (r : PageRef) (f : Page → Page) :
    (s.updPage r f).confirm = s.confirm := rfl
@[simp] theorem State.updPage_ring (s : State) (r : PageRef) (f : Page → Page) :
    (s.updPage r f).ring = s.ring := rfl
@[simp] theorem State.updPage_stackTimer (s : State) (r : PageRef) (f : Page → Page) :
    (s.updPage r f).stackTimer = s.stackTimer := rfl
@[simp] theorem State.updPage_recovery (s : State) (r : PageRef) (f : Page → Page) :
    (s.updPage r f).recovery = s.recovery := rfl
@[simp] theorem State.updPage_sheetsStacked (s : State) (r : PageRef) (f : Page → Page) :
    (s.updPage r f).sheetsStacked = s.sheetsStacked := rfl
@[simp] theorem State.updPage_request (s : State) (r : PageRef) (f : Page → Page) :
    (s.updPage r f).request = s.request := rfl
@[simp] theorem State.updPage_sentRows (s : State) (r : PageRef) (f : Page → Page) :
    (s.updPage r f).sentRows = s.sentRows := rfl
@[simp] theorem State.updPage_run (s : State) (r : PageRef) (f : Page → Page) :
    (s.updPage r f).run = s.run := rfl
@[simp] theorem State.updPage_cause (s : State) (r : PageRef) (f : Page → Page) :
    (s.updPage r f).cause = s.cause := rfl
@[simp] theorem State.updPage_keys (s : State) (r : PageRef) (f : Page → Page) :
    (s.updPage r f).keys = s.keys := rfl

@[simp] theorem State.updSlot_pending (s : State) (k : Fin 8) (f : OverlaySlot → OverlaySlot) :
    (s.updSlot k f).pending = s.pending := rfl
@[simp] theorem State.updSlot_ports (s : State) (k : Fin 8) (f : OverlaySlot → OverlaySlot) :
    (s.updSlot k f).ports = s.ports := rfl
@[simp] theorem State.updSlot_streams (s : State) (k : Fin 8) (f : OverlaySlot → OverlaySlot) :
    (s.updSlot k f).streams = s.streams := rfl
@[simp] theorem State.updSlot_forms (s : State) (k : Fin 8) (f : OverlaySlot → OverlaySlot) :
    (s.updSlot k f).forms = s.forms := rfl
@[simp] theorem State.updSlot_tables (s : State) (k : Fin 8) (f : OverlaySlot → OverlaySlot) :
    (s.updSlot k f).tables = s.tables := rfl
@[simp] theorem State.updSlot_composerPointer (s : State) (k : Fin 8) (f : OverlaySlot → OverlaySlot) :
    (s.updSlot k f).composerPointer = s.composerPointer := rfl
@[simp] theorem State.updSlot_taking (s : State) (k : Fin 8) (f : OverlaySlot → OverlaySlot) :
    (s.updSlot k f).taking = s.taking := rfl
@[simp] theorem State.updSlot_pages (s : State) (k : Fin 8) (f : OverlaySlot → OverlaySlot) :
    (s.updSlot k f).pages = s.pages := rfl
@[simp] theorem State.updSlot_pagesOpened (s : State) (k : Fin 8) (f : OverlaySlot → OverlaySlot) :
    (s.updSlot k f).pagesOpened = s.pagesOpened := rfl
@[simp] theorem State.updSlot_geometry (s : State) (k : Fin 8) (f : OverlaySlot → OverlaySlot) :
    (s.updSlot k f).geometry = s.geometry := rfl
@[simp] theorem State.updSlot_overlays (s : State) (k : Fin 8) (f : OverlaySlot → OverlaySlot) :
    (s.updSlot k f).overlays = s.overlays.modify k f := rfl
@[simp] theorem State.updSlot_buffers (s : State) (k : Fin 8) (f : OverlaySlot → OverlaySlot) :
    (s.updSlot k f).buffers = s.buffers := rfl
@[simp] theorem State.updSlot_offer (s : State) (k : Fin 8) (f : OverlaySlot → OverlaySlot) :
    (s.updSlot k f).offer = s.offer := rfl
@[simp] theorem State.updSlot_imagerPointer (s : State) (k : Fin 8) (f : OverlaySlot → OverlaySlot) :
    (s.updSlot k f).imagerPointer = s.imagerPointer := rfl
@[simp] theorem State.updSlot_settings (s : State) (k : Fin 8) (f : OverlaySlot → OverlaySlot) :
    (s.updSlot k f).settings = s.settings := rfl
@[simp] theorem State.updSlot_engineReady (s : State) (k : Fin 8) (f : OverlaySlot → OverlaySlot) :
    (s.updSlot k f).engineReady = s.engineReady := rfl
@[simp] theorem State.updSlot_issue (s : State) (k : Fin 8) (f : OverlaySlot → OverlaySlot) :
    (s.updSlot k f).issue = s.issue := rfl
@[simp] theorem State.updSlot_confirm (s : State) (k : Fin 8) (f : OverlaySlot → OverlaySlot) :
    (s.updSlot k f).confirm = s.confirm := rfl
@[simp] theorem State.updSlot_ring (s : State) (k : Fin 8) (f : OverlaySlot → OverlaySlot) :
    (s.updSlot k f).ring = s.ring := rfl
@[simp] theorem State.updSlot_stackTimer (s : State) (k : Fin 8) (f : OverlaySlot → OverlaySlot) :
    (s.updSlot k f).stackTimer = s.stackTimer := rfl
@[simp] theorem State.updSlot_recovery (s : State) (k : Fin 8) (f : OverlaySlot → OverlaySlot) :
    (s.updSlot k f).recovery = s.recovery := rfl
@[simp] theorem State.updSlot_sheetsStacked (s : State) (k : Fin 8) (f : OverlaySlot → OverlaySlot) :
    (s.updSlot k f).sheetsStacked = s.sheetsStacked := rfl
@[simp] theorem State.updSlot_request (s : State) (k : Fin 8) (f : OverlaySlot → OverlaySlot) :
    (s.updSlot k f).request = s.request := rfl
@[simp] theorem State.updSlot_sentRows (s : State) (k : Fin 8) (f : OverlaySlot → OverlaySlot) :
    (s.updSlot k f).sentRows = s.sentRows := rfl
@[simp] theorem State.updSlot_run (s : State) (k : Fin 8) (f : OverlaySlot → OverlaySlot) :
    (s.updSlot k f).run = s.run := rfl
@[simp] theorem State.updSlot_cause (s : State) (k : Fin 8) (f : OverlaySlot → OverlaySlot) :
    (s.updSlot k f).cause = s.cause := rfl
@[simp] theorem State.updSlot_keys (s : State) (k : Fin 8) (f : OverlaySlot → OverlaySlot) :
    (s.updSlot k f).keys = s.keys := rfl

@[simp] theorem State.setBuffer_pending (s : State) (b : Fin 2) (r : Raster) :
    (s.setBuffer b r).pending = s.pending := rfl
@[simp] theorem State.setBuffer_ports (s : State) (b : Fin 2) (r : Raster) :
    (s.setBuffer b r).ports = s.ports := rfl
@[simp] theorem State.setBuffer_streams (s : State) (b : Fin 2) (r : Raster) :
    (s.setBuffer b r).streams = s.streams := rfl
@[simp] theorem State.setBuffer_forms (s : State) (b : Fin 2) (r : Raster) :
    (s.setBuffer b r).forms = s.forms := rfl
@[simp] theorem State.setBuffer_tables (s : State) (b : Fin 2) (r : Raster) :
    (s.setBuffer b r).tables = s.tables := rfl
@[simp] theorem State.setBuffer_composerPointer (s : State) (b : Fin 2) (r : Raster) :
    (s.setBuffer b r).composerPointer = s.composerPointer := rfl
@[simp] theorem State.setBuffer_taking (s : State) (b : Fin 2) (r : Raster) :
    (s.setBuffer b r).taking = s.taking := rfl
@[simp] theorem State.setBuffer_pages (s : State) (b : Fin 2) (r : Raster) :
    (s.setBuffer b r).pages = s.pages := rfl
@[simp] theorem State.setBuffer_pagesOpened (s : State) (b : Fin 2) (r : Raster) :
    (s.setBuffer b r).pagesOpened = s.pagesOpened := rfl
@[simp] theorem State.setBuffer_geometry (s : State) (b : Fin 2) (r : Raster) :
    (s.setBuffer b r).geometry = s.geometry := rfl
@[simp] theorem State.setBuffer_overlays (s : State) (b : Fin 2) (r : Raster) :
    (s.setBuffer b r).overlays = s.overlays := rfl
@[simp] theorem State.setBuffer_buffers (s : State) (b : Fin 2) (r : Raster) :
    (s.setBuffer b r).buffers = s.buffers.set b r := rfl
@[simp] theorem State.setBuffer_offer (s : State) (b : Fin 2) (r : Raster) :
    (s.setBuffer b r).offer = s.offer := rfl
@[simp] theorem State.setBuffer_imagerPointer (s : State) (b : Fin 2) (r : Raster) :
    (s.setBuffer b r).imagerPointer = s.imagerPointer := rfl
@[simp] theorem State.setBuffer_settings (s : State) (b : Fin 2) (r : Raster) :
    (s.setBuffer b r).settings = s.settings := rfl
@[simp] theorem State.setBuffer_engineReady (s : State) (b : Fin 2) (r : Raster) :
    (s.setBuffer b r).engineReady = s.engineReady := rfl
@[simp] theorem State.setBuffer_issue (s : State) (b : Fin 2) (r : Raster) :
    (s.setBuffer b r).issue = s.issue := rfl
@[simp] theorem State.setBuffer_confirm (s : State) (b : Fin 2) (r : Raster) :
    (s.setBuffer b r).confirm = s.confirm := rfl
@[simp] theorem State.setBuffer_ring (s : State) (b : Fin 2) (r : Raster) :
    (s.setBuffer b r).ring = s.ring := rfl
@[simp] theorem State.setBuffer_stackTimer (s : State) (b : Fin 2) (r : Raster) :
    (s.setBuffer b r).stackTimer = s.stackTimer := rfl
@[simp] theorem State.setBuffer_recovery (s : State) (b : Fin 2) (r : Raster) :
    (s.setBuffer b r).recovery = s.recovery := rfl
@[simp] theorem State.setBuffer_sheetsStacked (s : State) (b : Fin 2) (r : Raster) :
    (s.setBuffer b r).sheetsStacked = s.sheetsStacked := rfl
@[simp] theorem State.setBuffer_request (s : State) (b : Fin 2) (r : Raster) :
    (s.setBuffer b r).request = s.request := rfl
@[simp] theorem State.setBuffer_sentRows (s : State) (b : Fin 2) (r : Raster) :
    (s.setBuffer b r).sentRows = s.sentRows := rfl
@[simp] theorem State.setBuffer_run (s : State) (b : Fin 2) (r : Raster) :
    (s.setBuffer b r).run = s.run := rfl
@[simp] theorem State.setBuffer_cause (s : State) (b : Fin 2) (r : Raster) :
    (s.setBuffer b r).cause = s.cause := rfl
@[simp] theorem State.setBuffer_keys (s : State) (b : Fin 2) (r : Raster) :
    (s.setBuffer b r).keys = s.keys := rfl

/-! ### Reading one port, stream, slot or buffer after an update -/

theorem State.port_updPort (s : State) (p q : Port) (f : PortState → PortState) :
    (s.updPort p f).port q = if p = q then f (s.port q) else s.port q := by
  cases p <;> cases q <;> simp [State.port, State.updPort, Bank.get_modify, portIndex]

@[simp] theorem State.port_updPort_self (s : State) (p : Port) (f : PortState → PortState) :
    (s.updPort p f).port p = f (s.port p) := by
  simp [State.port_updPort]

theorem State.stream_updStream (s : State) (i j : StreamNo) (f : Stream → Stream) :
    (s.updStream i f).stream j = if i = j then f (s.stream j) else s.stream j := by
  simp [State.stream, State.updStream, Bank.get_modify]

@[simp] theorem State.stream_updStream_self (s : State) (i : StreamNo) (f : Stream → Stream) :
    (s.updStream i f).stream i = f (s.stream i) := by
  simp [State.stream_updStream]

@[simp] theorem State.stream_updPort (s : State) (p : Port) (f : PortState → PortState) (i : StreamNo) :
    (s.updPort p f).stream i = s.stream i := rfl

@[simp] theorem State.port_updStream (s : State) (i : StreamNo) (f : Stream → Stream) (p : Port) :
    (s.updStream i f).port p = s.port p := rfl

@[simp] theorem State.stream_updPage (s : State) (r : PageRef) (f : Page → Page) (i : StreamNo) :
    (s.updPage r f).stream i = s.stream i := rfl

@[simp] theorem State.port_updPage (s : State) (r : PageRef) (f : Page → Page) (p : Port) :
    (s.updPage r f).port p = s.port p := rfl

theorem State.slot_updSlot (s : State) (k l : Fin 8) (f : OverlaySlot → OverlaySlot) :
    (s.updSlot k f).slot l = if k = l then f (s.slot l) else s.slot l := by
  simp [State.slot, State.updSlot, Bank.get_modify]

@[simp] theorem State.slot_updStream (s : State) (i : StreamNo) (f : Stream → Stream) (k : Fin 8) :
    (s.updStream i f).slot k = s.slot k := rfl

theorem State.buffer_setBuffer (s : State) (b c : Fin 2) (r : Raster) :
    (s.setBuffer b r).buffer c = if b = c then r else s.buffer c := by
  simp [State.buffer, State.setBuffer, Bank.get_set]

/-! ### Reading one stream or port after a map over all of them (unfolding `State.stream` under an `if` is to be avoided) -/

@[simp] theorem State.stream_mk_map (s : State) (f : Stream → Stream) (i : StreamNo) :
    ({ s with streams := s.streams.map f } : State).stream i = f (s.stream i) :=
  Bank.get_map s.streams f i

@[simp] theorem State.stream_mk_mapIdx (s : State) (f : StreamNo → Stream → Stream) (i : StreamNo) :
    ({ s with streams := s.streams.mapIdx f } : State).stream i = f i (s.stream i) :=
  Bank.get_mapIdx s.streams f i

@[simp] theorem State.port_mk_map (s : State) (f : PortState → PortState) (p : Port) :
    ({ s with ports := s.ports.map f } : State).port p = f (s.port p) :=
  Bank.get_map s.ports f (portIndex p)

/-! ### Updates of one place, one after another -/

theorem State.updPort_updPort (s : State) (p : Port) (f g : PortState → PortState) :
    (s.updPort p f).updPort p g = s.updPort p fun q => g (f q) := by
  simp [State.updPort, Bank.modify_modify]

theorem State.updStream_updStream (s : State) (i : StreamNo) (f g : Stream → Stream) :
    (s.updStream i f).updStream i g = s.updStream i fun t => g (f t) := by
  simp [State.updStream, Bank.modify_modify]

theorem State.updStream_updPort (s : State) (p : Port) (f : PortState → PortState) (i : StreamNo) (g : Stream → Stream) :
    (s.updPort p f).updStream i g = (s.updStream i g).updPort p f := rfl

/-! ### What the lookups and the counts answer -/

/-- The open page of a stream is one of its pages, OPEN; there is none where no page of its is (R90). -/
theorem State.openPage_spec (s : State) (i : StreamNo) :
    (s.openPage i = none ↔ ∀ q ∈ s.pages, ¬(q.stream = i ∧ q.state = .opened)) ∧
      ∀ p, s.openPage i = some p → p ∈ s.pages ∧ p.stream = i ∧ p.state = .opened := by
  unfold State.openPage
  exact ⟨by simp [List.find?_eq_none], fun p h => ⟨List.mem_of_find?_eq_some h, by simpa using List.find?_some h⟩⟩

/-- The open load of a stream is on a slot LOADING under it; there is none where no slot is (R122). -/
theorem State.openLoad_spec (s : State) (i : StreamNo) :
    (s.openLoad i = none ↔ ∀ k : Fin 8, (s.slot k).state ≠ .loading i) ∧
      ∀ k : Fin 8, s.openLoad i = some k → (s.slot k).state = .loading i := by
  unfold State.openLoad
  refine ⟨?_, fun k h => by simpa using List.find?_some h⟩
  rw [List.find?_eq_none]
  simp only [decide_eq_true_eq]
  exact ⟨fun h k => h k (by fin_cases k <;> simp [allStreams]), fun h k _ => h k⟩

/-- The outstanding count over the numbers of the two counters (R154). -/
theorem State.outstanding_eq (s : State) : s.outstanding = (s.issue.toNat + 16 - s.confirm.toNat) % 16 := by
  have := s.confirm.isLt
  unfold State.outstanding
  rw [BitVec.toNat_sub]
  omega

end Sys2Proof.Machine
end

