-- ==== Sys2Proof/Laws/Conditions.lean ====
section
/-! SUPPORT. What the shared operations on conditions, attention and the run state do: each as one equation, and what each leaves. -/

namespace Sys2Proof.Machine

/-- An update of both ports is a map over the ports. -/
theorem State.updPort_both (s : State) (f : PortState → PortState) :
    (s.updPort .a f).updPort .b f = { s with ports := s.ports.map f } := by
  simp only [State.updPort]
  congr 1
  apply Bank.ext_get
  intro j
  simp only [Bank.get_modify, Bank.get_map, portIndex]
  match j with
  | 0 => rfl
  | 1 => rfl

/-- A cause joins both ports' sets (R179). -/
theorem State.joinBoth_eq (s : State) (c : AttnCause) :
    s.joinBoth c = { s with ports := s.ports.map fun q => { q with causes := q.causes.join c } } :=
  State.updPort_both s _

/-- A device condition (R167). -/
theorem State.deviceCond_eq (s : State) (d : DevCond) :
    s.deviceCond d = { s with
      ports := s.ports.map fun q =>
        { q with deviceSet := q.deviceSet.set d.index true, causes := { q.causes with device := true } } } := by
  simp only [State.deviceCond, State.updPort_both, State.joinBoth_eq]
  congr 1
  apply Bank.ext_get
  intro j
  simp [Causes.join]

/-- The entry of STOPPED (R179, R186). -/
theorem State.enterStopped_eq (s : State) :
    s.enterStopped = { s with
      run := .stopped, ports := s.ports.map fun q => { q with causes := { q.causes with run := true } } } :=
  State.joinBoth_eq _ _

/-- The counting of a stream condition writes the streams and the ports alone (R13). -/
theorem State.countCond_frame (s : State) (i : StreamNo) (k : Cond) :
    s.countCond i k = { s with streams := (s.countCond i k).streams, ports := (s.countCond i k).ports } := by
  unfold State.countCond
  dsimp only
  cases (s.stream i).binding with
  | none => rfl
  | some p => dsimp only; split <;> rfl

/-- It changes its own stream's counts alone. -/
theorem State.stream_countCond (s : State) (i j : StreamNo) (k : Cond) :
    (s.countCond i k).stream j =
      if i = j then { s.stream j with counts := (s.stream j).counts.modify k.index fun n => min 255 (n + 1) } else s.stream j := by
  have h : (s.countCond i k).streams
      = (s.updStream i fun u => { u with counts := u.counts.modify k.index fun n => min 255 (n + 1) }).streams := by
    unfold State.countCond
    dsimp only
    cases (s.stream i).binding with
    | none => rfl
    | some p => dsimp only; split <;> rfl
  rw [State.stream, h]
  exact State.stream_updStream s i j _

@[simp] theorem State.countCond_pages (s : State) (i : StreamNo) (k : Cond) : (s.countCond i k).pages = s.pages := by
  rw [State.countCond_frame]
@[simp] theorem State.countCond_overlays (s : State) (i : StreamNo) (k : Cond) : (s.countCond i k).overlays = s.overlays := by
  rw [State.countCond_frame]
@[simp] theorem State.countCond_tables (s : State) (i : StreamNo) (k : Cond) : (s.countCond i k).tables = s.tables := by
  rw [State.countCond_frame]
@[simp] theorem State.countCond_forms (s : State) (i : StreamNo) (k : Cond) : (s.countCond i k).forms = s.forms := by
  rw [State.countCond_frame]
@[simp] theorem State.countCond_pending (s : State) (i : StreamNo) (k : Cond) : (s.countCond i k).pending = s.pending := by
  rw [State.countCond_frame]
@[simp] theorem State.countCond_run (s : State) (i : StreamNo) (k : Cond) : (s.countCond i k).run = s.run := by
  rw [State.countCond_frame]

@[simp] theorem State.countIf_false (s : State) (i : StreamNo) (k : Cond) : s.countIf false i k = s := rfl
@[simp] theorem State.countIf_true (s : State) (i : StreamNo) (k : Cond) : s.countIf true i k = s.countCond i k := rfl

theorem State.countIf_frame (s : State) (b : Bool) (i : StreamNo) (k : Cond) :
    s.countIf b i k = { s with streams := (s.countIf b i k).streams, ports := (s.countIf b i k).ports } := by
  cases b with
  | false => rfl
  | true => exact State.countCond_frame s i k

/-- A stop request writes the run state, its cause and the ports' cause sets alone (R185, R186). -/
theorem State.stopRequest_frame (s : State) (c : Cause) :
    s.stopRequest c = { s with
      run := (s.stopRequest c).run, cause := (s.stopRequest c).cause, ports := (s.stopRequest c).ports } := by
  unfold State.stopRequest State.testStopped
  cases s.run <;> dsimp only <;> first | rfl | (split <;> rfl)

/-- So does the test of STOPPING (R186), with the cause kept. -/
theorem State.testStopped_frame (s : State) :
    s.testStopped = { s with run := s.testStopped.run, ports := s.testStopped.ports } := by
  unfold State.testStopped
  split <;> rfl

/-- And an engine cause (R164). -/
theorem State.engineCause_frame (s : State) (c : Cause) :
    s.engineCause c = { s with
      run := (s.engineCause c).run, cause := (s.engineCause c).cause, ports := (s.engineCause c).ports } := by
  unfold State.engineCause
  cases s.run <;> dsimp only <;> first | rfl | (split <;> rfl)

/-- A start writes the run state alone (R187). -/
theorem State.start_frame (s : State) : s.start = { s with run := s.start.run } := by
  unfold State.start
  cases s.run with
  | check => dsimp only; split <;> rfl
  | _ => rfl

end Sys2Proof.Machine
end

