-- ==== Sys2Proof/Laws/Gate.lean ====
section
/-! SUPPORT. The Record Gate, said once: what the header check answers for a record as a host sends it, and what an end event
does in each of its outcomes. -/

namespace Sys2Proof.Machine

/-! ### The header of a record as sent (R1, R183) -/

/-- The class numbers of R183. -/
def Class.code : Class → Nat
  | .print => 1
  | .control => 2
  | .mark => 3
  | .close => 4

theorem classOf_recordByte (c : Class) (i : StreamNo) :
    classOf (BitVec.ofNat 8 (16 * c.code + i.val)) = some c := by
  cases c <;> (revert i; decide)

theorem loNibble_recordByte (c : Class) (i : StreamNo) :
    loNibble (BitVec.ofNat 8 (16 * c.code + i.val)) = i.val := by
  cases c <;> (revert i; decide)

theorem streamOf_val (i : StreamNo) : streamOf i.val = some i := by
  simp [streamOf]

theorem flagByte_reserved (sync halt : Bool) :
    (BitVec.ofNat 8 (128 * sync.toNat + 64 * halt.toNat)).toNat % 64 = 0 := by
  cases sync <;> cases halt <;> decide

theorem flagByte_sync (sync halt : Bool) :
    (BitVec.ofNat 8 (128 * sync.toNat + 64 * halt.toNat)).getLsbD 7 = sync := by
  cases sync <;> cases halt <;> decide

theorem flagByte_halt (sync halt : Bool) :
    (BitVec.ofNat 8 (128 * sync.toNat + 64 * halt.toNat)).getLsbD 6 = halt := by
  cases sync <;> cases halt <;> decide

theorem lengthByte (n : Nat) (h : n ≤ 255) : (BitVec.ofNat 8 n).toNat = n := by
  simp; omega

/-- Steps 1 to 5 of R4 pass a record sent whole, with its stream admitted, its length and its carriage action valid. -/
theorem checkHeader_recordBytes (s : State) (p : Port) (c : Class) (i : StreamNo) (carriage : Byte) (a : Action)
    (sync halt : Bool) (data : List Byte) (hlen : data.length ≤ 255) (hb : bindingRefusal s p i c data = none)
    (hl : lengthRefusal c data = none) (ha : carriageFor c carriage = some a) :
    checkHeader s p (recordBytes c.code i carriage sync halt data) false
      = .ok { stream := i, cls := c, action := a, sync := sync, halt := halt, data := data } := by
  simp only [recordBytes, List.cons_append, List.nil_append, checkHeader, lengthByte _ hlen, classOf_recordByte,
    loNibble_recordByte, streamOf_val, flagByte_reserved, hb, hl, ha, flagByte_sync, flagByte_halt]
  simp

/-- A record of class PRINT, MARK or CLOSE is the row of its class. -/
theorem fits_recordBytes (c : Class) (row : Row) (i : StreamNo) (carriage : Byte) (sync halt : Bool) (data : List Byte) :
    row.fits (recordBytes c.code i carriage sync halt data)
      = match c with
        | .print => decide (row = .print)
        | .mark => decide (row = .mark)
        | .close => decide (row = .close)
        | .control => row.fitsControl data := by
  simp only [recordBytes, List.cons_append, Row.fits, classOf_recordByte]
  cases c <;> rfl

/-- The stream of a bound header is admitted on its port (R6). -/
theorem bindingRefusal_bound (s : State) (p : Port) (i : StreamNo) (c : Class) (data : List Byte)
    (h : (s.stream i).binding = some p) : bindingRefusal s p i c data = none := by
  simp [bindingRefusal, h]

theorem carriageFor_print (b : Byte) (a : Action) (h : CarriageByte b a) : carriageFor .print b = some a := by
  have hb : b.toNat < 256 := b.isLt
  cases a with
  | none =>
    have : hiNibble b = 0 := h
    simp [carriageFor, actionOf, this]
  | space n =>
    obtain ⟨h1, h2, h3⟩ := h
    have : hiNibble b = 1 := by unfold hiNibble; omega
    have : loNibble b = n := by unfold loNibble; omega
    simp_all [carriageFor, actionOf]
  | skip n =>
    obtain ⟨h1, h2, h3⟩ := h
    have : hiNibble b = 2 := by unfold hiNibble; omega
    have : loNibble b = n := by unfold loNibble; omega
    simp_all [carriageFor, actionOf]

theorem carriageFor_still (c : Class) (b : Byte) (hc : c ≠ .print) (h : b.toNat / 16 = 0) : carriageFor c b = some .none := by
  cases c <;> simp_all [carriageFor, hiNibble]

/-! ### The end event (R4, R170) -/

/-- In the other reception states the fall of FRAME ends no record. -/
theorem State.endEvent_idle {α : Type} (s : State) (row : Row) (p : Port) (operands : Header → Except Reason α)
    (rule : Header → α → State → Ruling) (h : (s.port p).reception ≠ .receiving) :
    s.endEvent row p operands rule = s.updPort p fun q => { q with frame := false } := by
  simp [State.endEvent, State.lowerFrame, h]

@[simp] theorem State.lowerFrame_bytes (s : State) (p : Port) : ((s.lowerFrame p).port p).bytes = (s.port p).bytes := by
  simp [State.lowerFrame]

@[simp] theorem State.lowerFrame_ranLong (s : State) (p : Port) : ((s.lowerFrame p).port p).ranLong = (s.port p).ranLong := by
  simp [State.lowerFrame]

@[simp] theorem State.stream_lowerFrame (s : State) (p : Port) (i : StreamNo) : (s.lowerFrame p).stream i = s.stream i := rfl

@[simp] theorem checkHeader_lowerFrame (s : State) (p q : Port) (bytes : List Byte) (long : Bool) :
    checkHeader (s.lowerFrame q) p bytes long = checkHeader s p bytes long := rfl

/-- The end event of a record of the row, once the header has passed: the operands and the rule decide. -/
theorem State.endEvent_header {α : Type} (s : State) (row : Row) (p : Port) (operands : Header → Except Reason α)
    (rule : Header → α → State → Ruling) (bytes : List Byte) (h : Header) (hr : s.Received p bytes)
    (hf : row.fits bytes = true) (hh : checkHeader s p bytes false = .ok h) :
    s.endEvent row p operands rule
      = let low := s.lowerFrame p
        match operands h with
        | .error r => low.refuse p bytes r
        | .ok a =>
          match rule h a low with
          | .refused r => low.refuse p bytes r
          | .held => low.answer p .held false []
          | .taken after overflow frames => (after.countTaken h.stream).answer p .taken overflow frames := by
  obtain ⟨h1, h2, h3⟩ := hr
  unfold State.endEvent
  simp only [h1, ↓reduceIte, h2, hf, State.gate, State.lowerFrame_bytes, State.lowerFrame_ranLong, h3, checkHeader_lowerFrame, hh]
  all_goals rfl

/-- A refusal of a record whose header names a stream bound to the port is counted on it (R10). -/
theorem State.refuse_bound (s : State) (p : Port) (cls : Class) (i : StreamNo) (carriage : Byte) (sync halt : Bool)
    (data : List Byte) (r : Reason) (hb : (s.stream i).binding = some p) :
    (s.lowerFrame p).refuse p (recordBytes cls.code i carriage sync halt data) r = s.answeredRefused p (some i) r := by
  simp only [State.refuse, recordBytes, List.cons_append, List.nil_append, namedStream, loNibble_recordByte, streamOf_val,
    State.countRefusal, State.answeredRefused, State.stream_lowerFrame, hb, true_or, ↓reduceIte]
  rfl

/-- A control record's code and flags (R8 parts 1 and 2). -/
theorem checkControl_ok {α : Type} (code : Byte) (immediate : Bool) (operands : List Byte → Except Reason α) (h : Header)
    (rest : List Byte) (hd : h.data = code :: rest) (hf : immediate = true → h.sync = false ∧ h.halt = false) :
    checkControl code immediate operands h = operands h.data := by
  unfold checkControl
  rw [hd]
  cases immediate <;> simp_all

/-- A control record whose code is the row's is the row's. -/
theorem fitsControl_code (code : Byte) (rest : List Byte) : (Row.control code).fitsControl (code :: rest) = true := by
  simp [Row.fitsControl]

/-- The end event of a CONTROL record of the row whose code stands first and whose flags pass (R8): the operands and the rule decide. -/
theorem State.endEvent_control {α : Type} (s : State) (row : Row) (p : Port) (code : Byte) (immediate : Bool)
    (operands : List Byte → Except Reason α) (rule : Header → α → State → Ruling) (i : StreamNo) (carriage : Byte)
    (sync halt : Bool) (rest : List Byte) (hb : bindingRefusal s p i .control (code :: rest) = none) (hc : carriage.toNat / 16 = 0)
    (hl : (code :: rest).length ≤ 255) (hr : s.Received p (recordBytes 2 i carriage sync halt (code :: rest)))
    (hf : row.fitsControl (code :: rest) = true) (hi : immediate = true → sync = false ∧ halt = false) :
    s.endEvent row p (checkControl code immediate operands) rule
      = let low := s.lowerFrame p
        let h : Header := { stream := i, cls := .control, action := .none, sync := sync, halt := halt, data := code :: rest }
        match operands (code :: rest) with
        | .error r => low.refuse p (recordBytes 2 i carriage sync halt (code :: rest)) r
        | .ok a =>
          match rule h a low with
          | .refused r => low.refuse p (recordBytes 2 i carriage sync halt (code :: rest)) r
          | .held => low.answer p .held false []
          | .taken after overflow frames => (after.countTaken i).answer p .taken overflow frames := by
  have hh := checkHeader_recordBytes s p .control i carriage .none sync halt (code :: rest) hl hb rfl
    (carriageFor_still .control carriage (by decide) hc)
  have hfit := fits_recordBytes .control row i carriage sync halt (code :: rest)
  rw [State.endEvent_header s row p _ rule _ _ hr (by rw [show (2 : Nat) = Class.control.code from rfl, hfit]; exact hf) hh]
  rw [checkControl_ok code immediate operands _ rest rfl (by simpa using hi)]

/-- The end event of a CONTROL record on a stream bound to the port, its code the row's and its flags passed. -/
theorem State.endEvent_bound_control {α : Type} (s : State) (row : Row) (p : Port) (code : Byte) (immediate : Bool)
    (operands : List Byte → Except Reason α) (rule : Header → α → State → Ruling) (i : StreamNo) (carriage : Byte)
    (sync halt : Bool) (rest : List Byte) (h : s.ControlReceived p i carriage sync halt (code :: rest))
    (hf : row.fitsControl (code :: rest) = true) (hi : immediate = true → sync = false ∧ halt = false) :
    s.endEvent row p (checkControl code immediate operands) rule
      = match operands (code :: rest) with
        | .error r => s.answeredRefused p (some i) r
        | .ok a =>
          match rule { stream := i, cls := .control, action := .none, sync := sync, halt := halt, data := code :: rest } a (s.lowerFrame p) with
          | .refused r => s.answeredRefused p (some i) r
          | .held => (s.lowerFrame p).answer p .held false []
          | .taken after overflow frames => (after.countTaken i).answer p .taken overflow frames := by
  obtain ⟨hb, hc, hl, hr⟩ := h
  rw [State.endEvent_control s row p code immediate operands rule i carriage sync halt rest (bindingRefusal_bound s p i _ _ hb) hc hl hr hf hi]
  simp only [show (2:Nat) = Class.control.code from rfl, State.refuse_bound _ _ _ _ _ _ _ _ _ hb]

/-- Two bytes as a number, written out (R183). -/
theorem num16_eq (hi lo : Byte) : num16 hi lo = 256 * hi.toNat + lo.toNat := by
  simp only [num16, word16, BitVec.toNat_append, Nat.shiftLeft_eq]
  rw [Nat.mul_comm, ← Nat.two_pow_add_eq_or_of_lt lo.isLt]

@[simp] theorem State.run_lowerFrame (s : State) (p : Port) : (s.lowerFrame p).run = s.run := rfl

/-! ### Queued records (R11, R21) -/

theorem State.holdsQueued_iff (s : State) (i : StreamNo) : s.holdsQueued i = true ↔ s.QueueHolds i := by
  by_cases h : s.run = .run
  · simp [State.holdsQueued, State.slotFree, State.queueCount, State.spoolFree, State.QueueHolds, h]
  · simp [State.holdsQueued, State.QueueHolds, h]

@[simp] theorem State.holdsQueued_lowerFrame (s : State) (p : Port) (i : StreamNo) :
    (s.lowerFrame p).holdsQueued i = s.holdsQueued i := rfl

/-- The stamp of a record is the record as received with the six resolved fields of R3, whatever its carriage action. -/
theorem State.stamp_eq_stamped (s : State) (i : StreamNo) (body : Body) (action : Action) (sync halt : Bool) :
    (s.stream i).carriage.stamp s.forms body action sync halt = s.stamped i body action sync halt := by
  cases action <;> rfl

/-- The end event of a queued record without motion (R11, R40). -/
theorem State.queued_still (s : State) (p : Port) (i : StreamNo) (body : Body) (sync halt : Bool) :
    (match (if (s.lowerFrame p).holdsQueued i then Ruling.held
        else .taken ((s.lowerFrame p).takeStillRecord i body sync halt) false []) with
      | .refused r => (s.lowerFrame p).refuse p [] r
      | .held => (s.lowerFrame p).answer p .held false []
      | .taken after overflow frames => (after.countTaken i).answer p .taken overflow frames)
      = s.queuedOutcome p i body sync halt := by
  unfold State.queuedOutcome
  by_cases h : s.QueueHolds i
  · have := (s.holdsQueued_iff i).mpr h
    simp only [State.holdsQueued_lowerFrame, this, ↓reduceIte, h]
    rfl
  · have : s.holdsQueued i = false := by
      rw [Bool.eq_false_iff]; exact fun e => h ((s.holdsQueued_iff i).mp e)
    simp only [State.holdsQueued_lowerFrame, this, Bool.false_eq_true, ↓reduceIte, h]
    rfl

end Sys2Proof.Machine
end

