-- ==== Sys2Proof/Laws/Pages.lean ====
section
/-! SUPPORT. What the shared operations of the Page Store and the composer's emission can write, and how pages are found. -/

namespace Sys2Proof.Machine

/-- A map that keeps names is found through. -/
theorem findPage_map (pages : List Page) (f : Page → Page) (hf : ∀ p, (f p).ref = p.ref) (r : PageRef) :
    (pages.map f).find? (fun p => decide (p.ref = r)) = (pages.find? fun p => decide (p.ref = r)).map f := by
  rw [List.find?_map]
  congr 2
  funext p
  simp [hf]

theorem State.findPage_updPage (s : State) (r q : PageRef) (f : Page → Page) (hf : ∀ p, (f p).ref = p.ref) :
    (s.updPage r f).findPage q = (s.findPage q).map fun p => if p.ref = r then f p else p := by
  apply findPage_map
  intro p
  split
  · exact hf p
  · rfl

/-- What is found bears the name it was looked for by, and is in the store. -/
theorem State.findPage_some {s : State} {r : PageRef} {p : Page} (h : s.findPage r = some p) : p.ref = r ∧ p ∈ s.pages :=
  ⟨by simpa using List.find?_some h, List.mem_of_find?_eq_some h⟩

theorem State.openPage_some {s : State} {i : StreamNo} {p : Page} (h : s.openPage i = some p) :
    p.stream = i ∧ p.state = .opened ∧ p ∈ s.pages := by
  have := List.find?_some h
  exact ⟨(by simpa using this : _ ∧ _).1, (by simpa using this : _ ∧ _).2, List.mem_of_find?_eq_some h⟩

theorem State.openPage_none {s : State} {i : StreamNo} :
    s.openPage i = none ↔ ∀ p ∈ s.pages, p.stream = i → p.state ≠ .opened := by
  simp [State.openPage, List.find?_eq_none]

/-- The ending of STORE waits (R83) and of PIN waits (R128) writes the streams alone. -/
theorem State.endStoreWaits_frame (s : State) : s.endStoreWaits = { s with streams := s.endStoreWaits.streams } := rfl
theorem State.endPinWaits_frame (s : State) : s.endPinWaits = { s with streams := s.endPinWaits.streams } := rfl

/-- A waiting stream's wait ends or stays; nothing else of it changes. -/
theorem State.stream_endStoreWaits (s : State) (i : StreamNo) :
    s.endStoreWaits.stream i = if (s.stream i).wait = .store then { s.stream i with wait := .none } else s.stream i :=
  Bank.get_map s.streams _ i

/-- A page close writes the pages and the streams alone (R94, R88, R62). -/
theorem State.closePage_frame (s : State) (i : StreamNo) :
    s.closePage i = { s with streams := (s.closePage i).streams, pages := (s.closePage i).pages } := by
  unfold State.closePage
  cases s.openPage i with
  | none => rfl
  | some p => dsimp only; split <;> rfl

theorem State.makePage_frame (s : State) (i : StreamNo) (ln : ComposedLine) (n : Word16) (b : Bool) :
    s.makePage i ln n b = { s with
      streams := (s.makePage i ln n b).streams, pages := (s.makePage i ln n b).pages, pagesOpened := s.pagesOpened + 1 } := rfl

/-- The same update frame, twice over. -/
theorem State.makeBlanks_frame (s : State) (i : StreamNo) (ln : ComposedLine) (n : Nat) :
    s.makeBlanks i ln n = { s with
      streams := (s.makeBlanks i ln n).streams, pages := (s.makeBlanks i ln n).pages, pagesOpened := s.pagesOpened + n } := by
  induction n generalizing s with
  | zero => rfl
  | succ n ih =>
    unfold State.makeBlanks
    rw [ih, State.makePage_frame]
    simp only [Nat.add_assoc, Nat.add_comm 1 n]

theorem State.appendLine_frame (s : State) (i : StreamNo) (ln : ComposedLine) :
    s.appendLine i ln = { s with pages := (s.appendLine i ln).pages } := by
  unfold State.appendLine
  cases s.openPage i <;> rfl

theorem State.openWith_frame (s : State) (i : StreamNo) (ln : ComposedLine) :
    s.openWith i ln = { s with
      streams := (s.openWith i ln).streams, pages := (s.openWith i ln).pages, pagesOpened := (s.openWith i ln).pagesOpened } := by
  unfold State.openWith
  dsimp only
  rw [State.appendLine_frame, State.makePage_frame, State.makeBlanks_frame]
  rfl

/-- The arrival of a line writes the streams, the pages and the count of pages opened alone (R91). -/
theorem State.receiveLine_frame (s : State) (i : StreamNo) (ln : ComposedLine) :
    s.receiveLine i ln = { s with
      streams := (s.receiveLine i ln).streams, pages := (s.receiveLine i ln).pages
      pagesOpened := (s.receiveLine i ln).pagesOpened } := by
  unfold State.receiveLine
  dsimp only
  cases s.openPage i with
  | none => dsimp only; rw [State.openWith_frame]; rfl
  | some p =>
    dsimp only
    split
    · rw [State.appendLine_frame]; rfl
    · rw [State.openWith_frame, State.closePage_frame]; rfl

/-- So does the emission of a buffer (R71, R72). -/
theorem State.emit_frame (s : State) (i : StreamNo) :
    s.emit i = { s with
      streams := (s.emit i).streams, pages := (s.emit i).pages, pagesOpened := (s.emit i).pagesOpened } := by
  unfold State.emit
  cases (s.stream i).buffer with
  | none => rfl
  | some b =>
    dsimp only
    cases b.composed with
    | none => rfl
    | some ln => dsimp only; rw [State.receiveLine_frame]; rfl

/-- A delivery writes one stream and one port (R98, R177). -/
theorem State.deliverMark_frame (s : State) (i : StreamNo) (id : Word16) (n : Nat) (k : Stacker) :
    s.deliverMark i id n k = { s with
      streams := (s.deliverMark i id n k).streams, ports := (s.deliverMark i id n k).ports } := by
  unfold State.deliverMark
  cases (s.stream i).binding <;> rfl

theorem State.deliverMarks_frame (s : State) (i : StreamNo) (n : Nat) (k : Stacker) (ids : List Word16) :
    s.deliverMarks i n k ids = { s with
      streams := (s.deliverMarks i n k ids).streams, ports := (s.deliverMarks i n k ids).ports } := by
  induction ids generalizing s with
  | nil => rfl
  | cons id ids ih =>
    unfold State.deliverMarks
    rw [ih, State.deliverMark_frame]

/-- A mark that arrives writes the streams, the ports and the pages alone (R97). -/
theorem State.attachMark_frame (s : State) (i : StreamNo) (id : Word16) :
    s.attachMark i id = { s with
      streams := (s.attachMark i id).streams, ports := (s.attachMark i id).ports, pages := (s.attachMark i id).pages } := by
  unfold State.attachMark
  cases s.markPage i with
  | none => dsimp only; rw [State.deliverMark_frame]
  | some p =>
    dsimp only
    split
    · rfl
    · rw [State.countCond_frame]

theorem State.completeSync_frame (s : State) (i : StreamNo) :
    s.completeSync i = { s with streams := (s.completeSync i).streams, ports := (s.completeSync i).ports } := by
  unfold State.completeSync
  rw [State.countCond_frame]
  rfl

/-- The SYNC flag at the Page Store writes the streams, the ports and the pages alone (R99, R100). -/
theorem State.syncPages_frame (s : State) (i : StreamNo) :
    s.syncPages i = { s with
      streams := (s.syncPages i).streams, ports := (s.syncPages i).ports, pages := (s.syncPages i).pages } := by
  unfold State.syncPages
  cases s.openPage i with
  | some p => dsimp only; rw [State.closePage_frame]; rfl
  | none =>
    dsimp only
    cases s.newestPage i with
    | some p => rfl
    | none => dsimp only; rw [State.completeSync_frame]

/-- The stacking of a page writes the streams, the ports and the pages alone (R101). -/
theorem State.stackPage_frame (s : State) (p : Page) :
    s.stackPage p = { s with
      streams := (s.stackPage p).streams, ports := (s.stackPage p).ports, pages := (s.stackPage p).pages } := by
  unfold State.stackPage
  dsimp only
  split
  · rw [State.completeSync_frame, State.deliverMarks_frame]; rfl
  · rw [State.deliverMarks_frame]; rfl

/-- A discarding of pages writes the streams, the pages and the recovery list alone (R103, R162). -/
theorem State.discardPages_frame (s : State) (gone : Page → Bool) :
    s.discardPages gone = { s with
      streams := (s.discardPages gone).streams, pages := (s.discardPages gone).pages
      recovery := (s.discardPages gone).recovery } := by
  unfold State.discardPages
  dsimp only
  split <;> rfl

/-- A discarding of pages leaves those that are not gone, whether or not there was one to discard. -/
theorem State.discardPages_pages (s : State) (gone : Page → Bool) :
    (s.discardPages gone).pages = s.pages.filter fun p => !gone p := by
  unfold State.discardPages
  dsimp only
  split
  · rename_i h
    rw [List.map_eq_nil_iff, List.filter_eq_nil_iff] at h
    rw [List.filter_eq_self.2]
    intro p hp
    simpa using h p hp
  · rfl

end Sys2Proof.Machine
end

