-- ==== Sys2Proof/Laws/Imaging.lean ====
section
/-! SUPPORT. The recovery list's pages, the cells of a line by position, and what the imager's and the engine link's operations can
write. -/

namespace Sys2Proof.Machine

/-- The lost pages, each once (R162). -/
theorem firstPlaces_mem (l : List PageRef) (r : PageRef) : r ∈ firstPlaces l ↔ r ∈ l := by
  induction l with
  | nil => simp [firstPlaces]
  | cons a t ih =>
    simp only [firstPlaces, List.mem_cons, List.mem_filter, ih]
    by_cases h : r = a <;> simp [h]

theorem firstPlaces_nodup (l : List PageRef) : (firstPlaces l).Nodup := by
  induction l with
  | nil => simp [firstPlaces]
  | cons a t ih =>
    refine List.nodup_cons.2 ⟨by simp, ?_⟩
    exact List.Pairwise.filter _ ih

/-- The cells of a composed line stand at positions 1, 2, and so on (R71). -/
theorem positioned_mem (cells : List LineCell) (p : Nat) (c : LineCell) :
    (p, c) ∈ positioned cells ↔ 1 ≤ p ∧ cells[p - 1]? = some c := by
  simp only [positioned, List.mem_map, Prod.mk.injEq, Prod.exists]
  constructor
  · rintro ⟨a, k, h, rfl, rfl⟩
    rw [List.mem_zipIdx_iff_le_and_getElem?_sub] at h
    exact h
  · rintro h
    exact ⟨c, p, List.mem_zipIdx_iff_le_and_getElem?_sub.2 h, rfl, rfl⟩

/-- A selection writes the buffers, the offer order, the pages, the recovery list and the imager's pointer alone (R137 to R140). -/
theorem State.select_frame (s : State) :
    s.select = { s with
      buffers := s.select.buffers, offer := s.select.offer, pages := s.select.pages, recovery := s.select.recovery
      imagerPointer := s.select.imagerPointer } := by
  unfold State.select
  split
  · cases s.freeBuffer with
    | none => rfl
    | some b =>
      unfold State.choosePage
      cases s.recovery with
      | cons r rest => dsimp only; cases s.findPage r <;> rfl
      | nil =>
        dsimp only
        cases roundRobin s.imagerPointer (fun i => (s.candidate i).isSome) (fun i => ((s.stream i).imagingPriority.val : Int)) with
        | none => rfl
        | some i => dsimp only; cases s.candidate i <;> rfl
  · rfl

/-- Jam recovery writes the pages, the recovery list, the tags, the timer, the buffers and the offer order alone (R161, R146). -/
theorem State.recover_frame (s : State) :
    s.recover = { s with
      pages := s.recover.pages, recovery := s.recover.recovery, confirm := s.issue, ring := .replicate 16 none
      stackTimer := none, buffers := s.recover.buffers, offer := s.recover.offer } := rfl

/-- After a recovery no sheet is outstanding (R161). -/
theorem State.recover_outstanding (s : State) : s.recover.outstanding = 0 := by
  rw [State.recover_frame]
  simp [State.outstanding]

/-- An issue raises the outstanding count by 1 while it is below 15 (R154, R155). -/
theorem State.issueFrom_outstanding (s : State) (b : Fin 2) (p : Page) (h : s.outstanding < 15) :
    (s.issueFrom b p).outstanding = s.outstanding + 1 := by
  have hi : (s.issueFrom b p).issue = s.issue + 1 := rfl
  have hc : (s.issueFrom b p).confirm = s.confirm := rfl
  unfold State.outstanding at *
  rw [hi, hc]
  bv_omega

end Sys2Proof.Machine
end

