-- ==== Sys2Proof/Laws/Robin.lean ====
section
/-! SUPPORT. What a round robin answers (R61, R139): the candidate with the lowest number, and of those the first after the pointer. -/

namespace Sys2Proof.Machine

/-- A stream's place in the round robin's order: 0 for the stream after the pointer, 7 for the pointer's own. -/
theorem robinOrder_getElem (pointer : StreamNo) (k : Nat) (h : k < (robinOrder pointer).length) :
    (((robinOrder pointer)[k]).val + 7 - pointer.val) % 8 = k := by
  have hk : k < 8 := h
  revert pointer
  interval_cases k <;> decide

theorem robinOrder_mem (pointer i : StreamNo) : i ∈ robinOrder pointer := by
  revert pointer i
  decide

theorem robinOrder_pairwise (pointer : StreamNo) :
    (robinOrder pointer).Pairwise fun a b => (a.val + 7 - pointer.val) % 8 < (b.val + 7 - pointer.val) % 8 := by
  revert pointer
  decide

theorem leastFrom_le (n : Int) (l : List Int) : leastFrom n l ≤ n ∧ ∀ m ∈ l, leastFrom n l ≤ m := by
  induction l generalizing n with
  | nil => simp [leastFrom]
  | cons m ms ih =>
    have h := ih (min n m)
    simp only [leastFrom]
    refine ⟨by omega, fun x hx => ?_⟩
    rcases List.mem_cons.1 hx with rfl | hx
    · omega
    · exact h.2 x hx

theorem leastFrom_mem (n : Int) (l : List Int) : leastFrom n l = n ∨ leastFrom n l ∈ l := by
  induction l generalizing n with
  | nil => simp [leastFrom]
  | cons m ms ih =>
    simp only [leastFrom, List.mem_cons]
    rcases ih (min n m) with h | h
    · rw [h]
      rcases Int.le_total n m with hm | hm
      · left; omega
      · right; left; omega
    · exact Or.inr (Or.inr h)

/-- The round robin's choice: a candidate that comes before every other candidate, by number and then by turn. -/
theorem roundRobin_eq_some (pointer : StreamNo) (candidate : StreamNo → Bool) (number : StreamNo → Int) (i : StreamNo) :
    roundRobin pointer candidate number = some i ↔
      candidate i = true ∧ ∀ j : StreamNo, j ≠ i → candidate j = true →
        number i < number j ∨
          number i = number j ∧ (i.val + 7 - pointer.val) % 8 < (j.val + 7 - pointer.val) % 8 := by
  have hp : ((robinOrder pointer).filter candidate).Pairwise
      fun a b => (a.val + 7 - pointer.val) % 8 < (b.val + 7 - pointer.val) % 8 :=
    (robinOrder_pairwise pointer).filter _
  have hm : ∀ j, j ∈ (robinOrder pointer).filter candidate ↔ candidate j = true := by
    intro j; simp [robinOrder_mem]
  unfold roundRobin
  cases hl : (robinOrder pointer).filter candidate with
  | nil =>
    constructor
    · intro h; simp at h
    · rintro ⟨h, -⟩; have := (hm i).2 h; simp [hl] at this
  | cons c cs =>
    rw [hl] at hp hm
    dsimp only
    have hle : ∀ j ∈ c :: cs, leastFrom (number c) (cs.map number) ≤ number j := by
      intro j hj
      rcases List.mem_cons.1 hj with rfl | hj
      · exact (leastFrom_le _ _).1
      · exact (leastFrom_le _ _).2 _ (List.mem_map_of_mem hj)
    obtain ⟨w, hw, hwn⟩ : ∃ w ∈ c :: cs, number w = leastFrom (number c) (cs.map number) := by
      rcases leastFrom_mem (number c) (cs.map number) with h | h
      · exact ⟨c, by simp, h.symm⟩
      · obtain ⟨w, hw, h⟩ := List.mem_map.1 h
        exact ⟨w, List.mem_cons_of_mem _ hw, h⟩
    rw [List.find?_eq_some_iff_append]
    constructor
    · rintro ⟨hi, as, bs, hs, has⟩
      have hi : number i = leastFrom (number c) (cs.map number) := by simpa using hi
      refine ⟨(hm i).1 (by rw [hs]; simp), fun j hji hj => ?_⟩
      have hj' := (hm j).2 hj
      have hjn := hle j hj'
      rcases Int.lt_or_eq_of_le hjn with h | h
      · left; omega
      · right
        refine ⟨by omega, ?_⟩
        rw [hs] at hj' hp
        rcases List.mem_append.1 hj' with hja | hjb
        · have := has j hja
          simp [h] at this
        · rcases List.mem_cons.1 hjb with rfl | hjb
          · exact absurd rfl hji
          · exact (List.pairwise_cons.1 (List.pairwise_append.1 hp).2.1).1 j hjb
    · rintro ⟨hi, hall⟩
      have hi' := (hm i).2 hi
      have hin : number i = leastFrom (number c) (cs.map number) := by
        by_cases h : w = i
        · rw [← h]; exact hwn
        · have h1 := hle i hi'
          rcases hall w h ((hm w).1 hw) with h2 | h2 <;> omega
      refine ⟨by simpa using hin, ?_⟩
      obtain ⟨as, bs, hs⟩ := List.append_of_mem hi'
      refine ⟨as, bs, hs, fun a ha => ?_⟩
      rw [hs] at hp
      have hlt := (List.pairwise_append.1 hp).2.2 a ha i (by simp)
      have hai : a ≠ i := by rintro rfl; omega
      have hac : candidate a = true := (hm a).1 (by rw [hs]; simp [ha])
      rcases hall a hai hac with h | h
      · simp; omega
      · omega

/-- With no candidate it answers none. -/
theorem roundRobin_eq_none (pointer : StreamNo) (candidate : StreamNo → Bool) (number : StreamNo → Int) :
    roundRobin pointer candidate number = none ↔ ∀ j, candidate j = false := by
  constructor
  · intro h j
    by_contra hj
    have hj : candidate j = true := by simpa using hj
    have hne : ∃ i, roundRobin pointer candidate number = some i := by
      unfold roundRobin
      cases hl : (robinOrder pointer).filter candidate with
      | nil =>
        have : j ∈ (robinOrder pointer).filter candidate := by simp [robinOrder_mem, hj]
        simp [hl] at this
      | cons c cs =>
        dsimp only
        rw [← Option.isSome_iff_exists, List.find?_isSome]
        rcases leastFrom_mem (number c) (cs.map number) with h | h
        · exact ⟨c, by simp, by simp [h]⟩
        · obtain ⟨w, hw, h⟩ := List.mem_map.1 h
          exact ⟨w, List.mem_cons_of_mem _ hw, by simp [h]⟩
    obtain ⟨i, hi⟩ := hne
    simp [h] at hi
  · intro h
    unfold roundRobin
    rw [List.filter_eq_nil_iff.2 (by simp [h])]

end Sys2Proof.Machine
end

