-- ==== Sys2Proof/Laws/Tables.lean ====
section
/-! SUPPORT. The pair tables in key order, the translate loads, and a strike cell by cell. -/

namespace Sys2Proof.Machine

/-- Key order is a strict order: two entries stand in it one way, the other way, or have one key. -/
theorem PairEntry.keyBefore_iff (a b : PairEntry) :
    a.keyBefore b = true ↔
      a.glyph.val < b.glyph.val ∨ a.glyph.val = b.glyph.val ∧ a.mark.val < b.mark.val := by
  simp [PairEntry.keyBefore, Fin.ext_iff]

theorem PairEntry.keyBefore_trans {a b c : PairEntry} (h : a.keyBefore b = true) (k : b.keyBefore c = true) :
    a.keyBefore c = true := by
  rw [PairEntry.keyBefore_iff] at *
  omega

theorem PairEntry.keyBefore_same {a b : PairEntry} (h : a.glyph = b.glyph ∧ a.mark = b.mark) : a.keyBefore b = false := by
  rw [← Bool.not_eq_true, PairEntry.keyBefore_iff, h.1, h.2]
  omega

/-- A lookup finds the composite of an entry of the table with the key (R47). -/
theorem pairLookup_eq_some {pairs : List PairEntry} (h : pairs.Pairwise fun a b => a.keyBefore b = true) (g : Glyph) (m : MarkNo)
    (c : Glyph) : pairLookup pairs g m = some c ↔ (⟨g, m, c⟩ : PairEntry) ∈ pairs := by
  induction pairs with
  | nil => simp [pairLookup]
  | cons p ps ih =>
    obtain ⟨hp, hps⟩ := List.pairwise_cons.1 h
    have ih := ih hps
    simp only [pairLookup, List.find?_cons] at *
    by_cases hk : p.glyph = g ∧ p.mark = m
    · obtain ⟨rfl, rfl⟩ := hk
      simp only [and_self, decide_true, Option.map_some, Option.some.injEq, List.mem_cons]
      constructor
      · rintro rfl; exact Or.inl rfl
      · rintro (h | h)
        · rw [← h]
        · have := hp _ h
          exact absurd this (by rw [PairEntry.keyBefore_same (a := p) (b := ⟨p.glyph, p.mark, c⟩) ⟨rfl, rfl⟩]; simp)
    · simp only [hk, decide_false, List.mem_cons]
      rw [ih]
      constructor
      · exact Or.inr
      · rintro (h | h)
        · exact absurd ⟨by rw [← h], by rw [← h]⟩ hk
        · exact h

theorem pairLookup_eq_none (pairs : List PairEntry) (g : Glyph) (m : MarkNo) :
    pairLookup pairs g m = none ↔ ∀ e ∈ pairs, ¬(e.glyph = g ∧ e.mark = m) := by
  simp [pairLookup, List.find?_eq_none]

/-- The entries after an insertion: the new one, and the others with another key (R53). -/
theorem pairInsert_mem {pairs : List PairEntry} (h : pairs.Pairwise fun a b => a.keyBefore b = true) (e p : PairEntry) :
    p ∈ pairInsert e pairs ↔ p = e ∨ p ∈ pairs ∧ ¬(p.glyph = e.glyph ∧ p.mark = e.mark) := by
  induction pairs with
  | nil => simp [pairInsert]
  | cons q qs ih =>
    obtain ⟨hq, hqs⟩ := List.pairwise_cons.1 h
    have ih := ih hqs
    have later : ∀ x ∈ qs, q.keyBefore x = true := hq
    unfold pairInsert
    split
    · rename_i heq
      have all : ∀ x ∈ q :: qs, ¬(x.glyph = e.glyph ∧ x.mark = e.mark) := by
        intro x hx hk
        have hex : e.keyBefore x = true := by
          rcases List.mem_cons.1 hx with rfl | hx
          · exact heq
          · exact PairEntry.keyBefore_trans heq (later x hx)
        rw [PairEntry.keyBefore_same ⟨hk.1.symm, hk.2.symm⟩] at hex
        exact absurd hex (by simp)
      rw [List.mem_cons]
      constructor
      · rintro (h | h)
        · exact Or.inl h
        · exact Or.inr ⟨h, all p h⟩
      · rintro (h | h)
        · exact Or.inl h
        · exact Or.inr h.1
    · split
      · rename_i hqe
        have hne : ¬(q.glyph = e.glyph ∧ q.mark = e.mark) := by
          intro hk
          rw [PairEntry.keyBefore_same hk] at hqe
          exact absurd hqe (by simp)
        rw [List.mem_cons, ih, List.mem_cons]
        constructor
        · rintro (rfl | h | h)
          · exact Or.inr ⟨Or.inl rfl, hne⟩
          · exact Or.inl h
          · exact Or.inr ⟨Or.inr h.1, h.2⟩
        · rintro (h | ⟨rfl | h, hk⟩)
          · exact Or.inr (Or.inl h)
          · exact Or.inl rfl
          · exact Or.inr (Or.inr ⟨h, hk⟩)
      · rename_i h1 h2
        have hk : q.glyph = e.glyph ∧ q.mark = e.mark := by
          rw [PairEntry.keyBefore_iff] at h1 h2
          simp only [Fin.ext_iff]
          omega
        have all : ∀ x ∈ qs, ¬(x.glyph = e.glyph ∧ x.mark = e.mark) := by
          intro x hx hx'
          have := later x hx
          rw [PairEntry.keyBefore_same ⟨hk.1.trans hx'.1.symm, hk.2.trans hx'.2.symm⟩] at this
          exact absurd this (by simp)
        rw [List.mem_cons, List.mem_cons]
        constructor
        · rintro (h | h)
          · exact Or.inl h
          · exact Or.inr ⟨Or.inr h, all p h⟩
        · rintro (h | ⟨rfl | h, hn⟩)
          · exact Or.inl h
          · exact absurd hk hn
          · exact Or.inr h

/-- An insertion keeps key order (R46). -/
theorem pairInsert_pairwise {pairs : List PairEntry} (h : pairs.Pairwise fun a b => a.keyBefore b = true) (e : PairEntry) :
    (pairInsert e pairs).Pairwise fun a b => a.keyBefore b = true := by
  induction pairs with
  | nil => simp [pairInsert]
  | cons q qs ih =>
    obtain ⟨hq, hqs⟩ := List.pairwise_cons.1 h
    unfold pairInsert
    split
    · rename_i heq
      refine List.pairwise_cons.2 ⟨fun x hx => ?_, h⟩
      rcases List.mem_cons.1 hx with rfl | hx
      · exact heq
      · exact PairEntry.keyBefore_trans heq (hq x hx)
    · split
      · rename_i hqe
        refine List.pairwise_cons.2 ⟨fun x hx => ?_, ih hqs⟩
        rcases (pairInsert_mem hqs e x).1 hx with rfl | hx
        · exact hqe
        · exact hq x hx.1
      · rename_i h1 h2
        rw [PairEntry.keyBefore_iff] at h1 h2
        refine List.pairwise_cons.2 ⟨fun x hx => ?_, hqs⟩
        have hb := hq x hx
        rw [PairEntry.keyBefore_iff] at hb ⊢
        omega

/-- An insertion of a key that is not in the table makes it longer by 1; another leaves its size (R53). -/
theorem pairInsert_length {pairs : List PairEntry} (h : pairs.Pairwise fun a b => a.keyBefore b = true) (e : PairEntry) :
    (pairInsert e pairs).length = if (pairLookup pairs e.glyph e.mark).isSome then pairs.length else pairs.length + 1 := by
  induction pairs with
  | nil => rfl
  | cons q qs ih =>
    obtain ⟨hq, hqs⟩ := List.pairwise_cons.1 h
    have absent : e.keyBefore q = true → pairLookup (q :: qs) e.glyph e.mark = none := by
      intro heq
      rw [pairLookup_eq_none]
      intro x hx hk
      have hex : e.keyBefore x = true := by
        rcases List.mem_cons.1 hx with rfl | hx
        · exact heq
        · exact PairEntry.keyBefore_trans heq (hq x hx)
      rw [PairEntry.keyBefore_same ⟨hk.1.symm, hk.2.symm⟩] at hex
      exact absurd hex (by simp)
    unfold pairInsert
    split
    · rename_i heq
      simp [absent heq]
    · split
      · rename_i hqe
        have hne : ¬(q.glyph = e.glyph ∧ q.mark = e.mark) := by
          intro hk
          rw [PairEntry.keyBefore_same hk] at hqe
          exact absurd hqe (by simp)
        have : pairLookup (q :: qs) e.glyph e.mark = pairLookup qs e.glyph e.mark := by
          simp [pairLookup, hne]
        rw [this, List.length_cons, ih hqs]
        split <;> simp
      · rename_i h1 h2
        have hk : q.glyph = e.glyph ∧ q.mark = e.mark := by
          rw [PairEntry.keyBefore_iff] at h1 h2
          simp only [Fin.ext_iff]
          omega
        have : (pairLookup (q :: qs) e.glyph e.mark).isSome = true := by simp [pairLookup, hk]
        simp [this]

/-- The translate table after a load (R51): the entries from the first code on, and the others as they were. -/
theorem xlateReplace_get (x : Bank XlateEntry 256) (first : Nat) (entries : List XlateEntry) (j : Fin 256) :
    (xlateReplace x first entries).get j = if first ≤ j.val then (entries[j.val - first]?).getD (x.get j) else x.get j := by
  induction entries generalizing x first with
  | nil => simp [xlateReplace]
  | cons e es ih =>
    unfold xlateReplace
    split
    · rename_i hf
      rw [ih, Bank.get_set]
      have hx : (⟨first, hf⟩ : Fin 256) = j ↔ first = j.val := by simp [Fin.ext_iff]
      rcases Nat.lt_trichotomy first j.val with h | h | h
      · have hne : (⟨first, hf⟩ : Fin 256) ≠ j := by rw [Ne, hx]; omega
        simp only [if_neg hne]
        rw [if_pos (show first + 1 ≤ j.val by omega), if_pos (show first ≤ j.val by omega),
          show j.val - first = (j.val - (first + 1)) + 1 by omega, List.getElem?_cons_succ]
      · have hj : (⟨first, hf⟩ : Fin 256) = j := hx.2 h
        rw [if_neg (show ¬ first + 1 ≤ j.val by omega), if_pos hj, if_pos (show first ≤ j.val by omega),
          show j.val - first = 0 by omega, List.getElem?_cons_zero]
        simp only [Option.getD_some]
      · have hne : (⟨first, hf⟩ : Fin 256) ≠ j := by rw [Ne, hx]; omega
        rw [if_neg (show ¬ first + 1 ≤ j.val by omega), if_neg hne, if_neg (show ¬ first ≤ j.val by omega)]
    · rw [if_neg (by omega)]

/-- One cell after a strike from `place` on (R66). -/
theorem strikeFrom_get (t : TableSet) (place : Nat) (cells : Bank Cell 160) (data : List Byte) (j : Fin 160) :
    (strikeFrom t place cells data).cells.get j =
      if place ≤ j.val then
        match data[j.val - place]? with
        | some b => ((cells.get j).merge t.pairs (t.lookup b)).cell
        | none => cells.get j
      else cells.get j := by
  induction data generalizing place cells with
  | nil => simp [strikeFrom]
  | cons b bs ih =>
    unfold strikeFrom
    split
    · rename_i hp
      dsimp only
      rw [ih, Bank.get_set]
      have hx : (⟨place, hp⟩ : Fin 160) = j ↔ place = j.val := by simp [Fin.ext_iff]
      rcases Nat.lt_trichotomy place j.val with h | h | h
      · have hne : (⟨place, hp⟩ : Fin 160) ≠ j := by rw [Ne, hx]; omega
        simp only [if_neg hne]
        rw [if_pos (show place + 1 ≤ j.val by omega), if_pos (show place ≤ j.val by omega),
          show j.val - place = (j.val - (place + 1)) + 1 by omega, List.getElem?_cons_succ]
      · have hj : (⟨place, hp⟩ : Fin 160) = j := hx.2 h
        rw [if_neg (show ¬ place + 1 ≤ j.val by omega), if_pos hj, if_pos (show place ≤ j.val by omega),
          show j.val - place = 0 by omega, List.getElem?_cons_zero]
        simp only [hj]
      · have hne : (⟨place, hp⟩ : Fin 160) ≠ j := by rw [Ne, hx]; omega
        rw [if_neg (show ¬ place + 1 ≤ j.val by omega), if_neg hne, if_neg (show ¬ place ≤ j.val by omega)]
    · rw [if_neg (by omega)]

end Sys2Proof.Machine
end

