-- ==== Sys2Proof/WellFormed.lean ====
section
/-! DEFINITION. Which commands are well formed: the operand ranges the types do not already hold. -/

namespace Sys2Proof

/-- The tray of a TRAY EMPTY and the stacker of a STACKER FULL are 1 or 2 (R86, R149), and an ANSWER_RETURN is
at least one acknowledge (R171). Every other operand's type holds its range. -/
def Instr.wellFormed : Instr → Bool
  | .trayEmpty n => n == 1 || n == 2
  | .stackerFull n => n == 1 || n == 2
  | .answerReturn _ n => decide (1 ≤ n)
  | _ => true

end Sys2Proof
end

