-- ==== Sys2Proof/Tests/Slice0.lean ====
section
/-! SUPPORT. Small tests: what the well-formedness check refuses, one step of each command on a small state with the value the spec
gives, and, for every statement with hypotheses, a state and operands that meet them. -/

set_option Elab.async false

open Sys2Proof Sys2Proof.Machine

namespace Tests

/-! ### Small states -/

/-- The state a command leaves. -/
def after (s : State) (c : Instr) : State :=
  match exec c s with
  | .next t => t
  | _ => s

/-- Stream 2 bound to port A and stream 5 to port B, in RUN. -/
def bound : State :=
  { (State.reset.updStream 2 fun t => { t with binding := some .a }).updStream 5 fun t => { t with binding := some .b } with
    run := .run }

/-- A record whole in port A, its FRAME still up. -/
def holding (s : State) (bytes : List Byte) : State :=
  s.updPort .a fun q => { q with frame := true, reception := .receiving, count := bytes.length, bytes := bytes }

/-- A control record of stream 2 in port A. -/
def control (data : List Byte) : State := holding bound (recordBytes 2 2 0 false false data)

/-- A record in the port of a state, of stream 2. -/
def record (s : State) (cls : Nat) (carriage : Byte) (data : List Byte) : State :=
  holding s (recordBytes cls 2 carriage false false data)

/-- A resolved record at line 1 of form sequence 1. -/
def resolved (body : Body) (advance : Bool) : Resolved :=
  { body := body, action := if advance then .space 1 else .none, sync := false, halt := false, sequence := 1, line := 1, length := 66, pitch := .six, width := 132,
    advance := advance }

/-- Stream 2 with one record in its queue. -/
def queue (s : State) (body : Body) (advance : Bool := false) : State :=
  s.updStream 2 fun t => { t with queue := [resolved body advance] }

/-- The taking of stream 2's one record is under way. -/
def underWay (body : Body) : State := { queue bound body with taking := some (.granted 2) }

/-- An OPEN page of stream 2 with one line. -/
def openPage : Page :=
  { Stream.initial.newPage 2 0 Geometry.default ⟨1, 1, 66, .six, 132, []⟩ 1 false with
    lines := [⟨1, 1, 66, .six, 132, []⟩], reservation := 65 }

def closedPage : Page := { openPage with state := .closed, reservation := 0 }

/-- The page alone in the store. -/
def withPage (s : State) (p : Page) : State := { s with pages := [p], pagesOpened := 1 }

/-- An OPEN buffer of stream 2 with one glyph at position 3. -/
def buffer : Assembly :=
  { (resolved .close false).opens 0 with
    cells := (Bank.replicate 160 Cell.empty).set 2 { Cell.empty with base := some 65 } }

/-- A buffer X in a state, holding the page with a raster of no dots. -/
def drawn (p : Page) (state : RasterState) : State :=
  { withPage bound p with
    buffers := (Bank.replicate 2 Raster.free).set 0 ⟨state, some p.ref, 0, 0, false, []⟩, offer := [0], engineReady := true }

/-- One sheet outstanding under tag 0, of the page given. -/
def issued (p : Page) (complete : Bool) : State :=
  { withPage bound { p with state := .issued, copiesIssued := 1 } with
    issue := 1, ring := (Bank.replicate 16 none).set 0 (some ⟨p.ref, complete⟩), stackTimer := some 20 }

/-! ### Well-formedness -/

theorem test_wellFormed_refuses_tray_0 : (Instr.trayEmpty 0).wellFormed = false := by decide
theorem test_wellFormed_refuses_tray_3 : (Instr.trayEmpty 3).wellFormed = false := by decide
theorem test_wellFormed_refuses_stacker_3 : (Instr.stackerFull 3).wellFormed = false := by decide
theorem test_wellFormed_refuses_no_acknowledge : (Instr.answerReturn .a 0).wellFormed = false := by decide
theorem test_wellFormed_passes : (Instr.trayEmpty 2).wellFormed = true := by decide

/-! ### Resets, lines and bytes -/

/-- R192: after power-on the run state is STOPPED with cause PANEL. -/
theorem test_powerOn : ((after bound .powerOnReset).run, (after bound .powerOnReset).cause) = (.stopped, .panel) := by decide
/-- R24: the port's streams become UNBOUND, the other port's stay. -/
theorem test_portReset : ((after bound (.portReset .a)).stream 2).binding = none ∧
    ((after bound (.portReset .a)).stream 5).binding = some .b := by decide +kernel
/-- R83: a PORT RESET that discards a page ends the STORE wait of a stream of the other port; one that discards none does not. -/
theorem test_portReset_waits :
    let s := bound.updStream 5 fun t => { t with wait := .store }
    ((after (withPage s closedPage) (.portReset .a)).stream 5).wait = .none ∧
    ((after s (.portReset .a)).stream 5).wait = .store := by decide +kernel
/-- R182: a FRAME already up is taken as a new record. -/
theorem test_resetRelease : ((after (bound.updPort .a fun q => { q with frame := true, reset := true }) (.resetRelease .a)).port
    .a).reception = .receiving := by decide +kernel
/-- R170. -/
theorem test_frameRise : ((after bound (.frameRise .a)).port .a).reception = .receiving := by decide +kernel
/-- R170: a byte strobed in IDLE is not kept. -/
theorem test_byteStrobe_idle : ((after bound (.byteStrobe .a 5)).port .a).bytes = [] := by decide +kernel
/-- R170: a byte past the declared length makes the record run long. -/
theorem test_byteStrobe_long : ((after (holding bound [0x42, 0, 0, 0]) (.byteStrobe .a 5)).port .a).ranLong = true := by
  decide +kernel
/-- R171: after the last byte the port is IDLE. -/
theorem test_answerReturn : ((after (bound.updPort .a fun q => { q with reception := .answering, answer := [0x40] })
    (.answerReturn .a 1)).port .a).reception = .idle := by decide +kernel

/-! ### Records -/

/-- Section 2.6, sequence 1: from line 62 SPACE 2 reaches 64 with OVERFLOW: TAKEN (40h) with OVERFLOW (20h). -/
theorem test_print_overflow :
    let s := record (bound.updStream 2 fun t => { t with carriage := { t.carriage with line := 62, started := true } }) 1 0x12 [65]
    (((after s (.print .a)).stream 2).carriage.line, ((after s (.print .a)).port .a).answer) = (64, [0x60#8]) := by decide +kernel
/-- Section 2.6, sequence 1: SKIP 1 from line 63 lands at line 1 of the next form; R3: the spool holds the action as received. -/
theorem test_print_skip :
    let s := record (bound.updStream 2 fun t => { t with carriage := { t.carriage with line := 63, sequence := 2 } }) 1 0x21 []
    (((after s (.print .a)).stream 2).carriage.line, ((after s (.print .a)).stream 2).carriage.sequence,
      ((after s (.print .a)).stream 2).queue.map Resolved.action) = (1, 3, [.skip 1]) := by
  decide +kernel
/-- R2: the mark id is two bytes, the most significant first. -/
theorem test_mark : (((after (record bound 3 0 [0x11, 0x3A]) (.mark .a)).stream 2).queue.map Resolved.body) = [.mark 4410] := by
  decide +kernel
/-- R7, R13: a CLOSE with data is LENGTH (04h), and the condition it counts puts ATTENTION (10h) into the status. -/
theorem test_close_length : ((after (record bound 4 0 [1]) (.close .a)).port .a).answer = [0xD0#8, 0x04#8] := by decide +kernel
/-- R39: a CLOSE off line 1 begins the next form. -/
theorem test_close : (((after (record (bound.updStream 2 fun t => { t with carriage := { t.carriage with line := 9 } }) 4 0 [])
    (.close .a)).stream 2).carriage.sequence) = 2 := by decide +kernel
/-- R11: in STOPPED a queued record is HELD (80h) with NOT RUNNING (08h). -/
theorem test_print_held : ((after (record { bound with run := .stopped } 1 0 [65]) (.print .a)).port .a).answer = [0x88#8] := by
  decide +kernel

/-- R183: the DEVICE frame's kind byte, run state and cause. -/
theorem test_senseDevice : ((after (control [1, 1]) (.senseDevice .a)).port .a).answer.take 2 = [1, 0] := by decide +kernel
/-- R183: a stream frame, a conditions frame and the status make 65 bytes. -/
theorem test_senseStream : ((after (control [1, 2, 2]) (.senseStream .a)).port .a).answer.length = 65 := by decide +kernel
/-- R183: an empty capture. -/
theorem test_senseMark : ((after (control [1, 3]) (.senseMark .a)).port .a).answer.take 3 = [4, 0, 0] := by decide +kernel
/-- R16: the quota clamps to 16. -/
theorem test_streamOpen :
    let s := after (holding bound (recordBytes 2 3 0 false false [2, 0, 3, 9, 1, 0, 255, 255, 255])) (.streamOpen .a)
    ((s.stream 3).binding, (s.stream 3).quota, (s.stream 3).composerPriority) = (some .a, 16, 3) := by decide +kernel
/-- R18. -/
theorem test_streamRelease : ((after (control [3]) (.streamRelease .a)).stream 2).binding = none := by decide +kernel
/-- R19: the queue is emptied and the stream stays bound. -/
theorem test_cancel :
    let s := after (holding (queue bound .close) (recordBytes 2 2 0 false false [4])) (.cancel .a)
    ((s.stream 2).queue, (s.stream 2).binding) = ([], some .a) := by decide +kernel
/-- Section 2.6, sequence 2: form 2 of 12 lines at 8 lpi. -/
theorem test_formLoad : ((after (control [5, 2, 12, 8, 12, 2, 1, 0x02, 4, 0x0C]) (.formLoad .a)).forms.get 2)
    = ⟨12, .eight, 12, [⟨1, 0x02⟩, ⟨4, 0x0C⟩]⟩ := by decide +kernel
/-- R42: at line 1 with form started no the select applies at once. -/
theorem test_formSelect : ((after (control [6, 2, 80]) (.formSelect .a)).stream 2).carriage.width = 80 := by decide +kernel
/-- R181. -/
theorem test_portSet : ((after (control [7, 1]) (.portSet .a)).port .a).hold = true := by decide +kernel
/-- R185, R186: with nothing outstanding STOP goes to STOPPED; its status carries NOT RUNNING and the run-state ATTENTION. -/
theorem test_stop : (after (control [8]) (.stop .a)).run = .stopped ∧ ((after (control [8]) (.stop .a)).port .a).answer = [0x58#8] := by
  decide +kernel
/-- R187. -/
theorem test_resume : (after { control [9] with run := .stopped } (.resume .a)).run = .run := by decide +kernel
/-- R152: NOT STOPPED (0Bh) in RUN; in STOPPED the path depth clamps to 6. -/
theorem test_engineSet :
    let d : List Byte := [10, 9, 20, 9, 246, 12, 228, 9, 246, 12, 228, 0, 0]
    ((after (control d) (.engineSet .a)).port .a).answer.getLast? = some 0x0B#8 ∧
    (after { control d with run := .stopped } (.engineSet .a)).settings.pathDepth = 6 := by decide +kernel

/-- Section 3.7, example 1: code 22h takes glyph 34 with mark 3. -/
theorem test_xlateLoad : (((after (control [0x21, 1, 0x22, 1, 0x33, 0, 34]) (.xlateLoad .a)).stream 2).queue.map Resolved.body)
    = [.xlateLoad 1 0x22 [.glyph 34 (some 3)]] := by decide +kernel
/-- Section 3.7, example 1: (69, 1) gives 201. -/
theorem test_pairLoad : (((after (control [0x22, 1, 1, 0, 69, 1, 0, 201]) (.pairLoad .a)).stream 2).queue.map Resolved.body)
    = [.pairLoad 1 [⟨69, 1, 201⟩]] := by decide +kernel
/-- R54: a table set above 1 is OPERAND RANGE (09h). -/
theorem test_pairClear : ((after (control [0x23, 2]) (.pairClear .a)).port .a).answer.getLast? = some 0x09#8 := by decide +kernel
/-- R109: a span of 0 is OPERAND RANGE (09h). -/
theorem test_geometryLoad : ((after (control [0x24, 3, 0, 75, 0, 75, 0, 0, 12, 78]) (.geometryLoad .a)).port .a).answer.getLast?
    = some 0x09#8 := by decide +kernel
/-- R15: copies 0 clamps to 1. -/
theorem test_streamSet : (((after (control [0x25, 1, 7, 0xFF, 2, 2, 0, 1]) (.streamSet .a)).stream 2).queue.map Resolved.body)
    = [.streamSet ⟨1, 7, none, .two, .two, 1, .print⟩] := by decide +kernel
/-- R124: a declared count of 256. -/
theorem test_overlayBegin : (((after (control [0x26, 7, 1, 0]) (.overlayBegin .a)).stream 2).queue.map Resolved.body)
    = [.overlayBegin 7 256] := by decide +kernel
/-- R123: a band of half density. -/
theorem test_overlayEntries :
    (((after (control [0x27, 1, 0x32, 0, 10, 0, 20, 1, 0, 0, 5, 2, 0, 7]) (.overlayEntries .a)).stream 2).queue.map Resolved.body)
    = [.overlayEntries [⟨.band 256 5 .half, 10, 20, 2, 7⟩]] := by decide +kernel
/-- R124: OVERLAY END is its code alone; LENGTH (04h) otherwise. -/
theorem test_overlayEnd : ((after (control [0x28, 0]) (.overlayEnd .a)).port .a).answer.getLast? = some 0x04#8 := by decide +kernel

/-! ### Takings -/

/-- R66: byte 41h strikes glyph 65 at position 1. -/
theorem test_takePrint : (((after (queue bound (.print [0x41])) .takePrint).stream 2).buffer.map fun b => (b.cells.get 0).base)
    = some (some 65) := by decide +kernel
/-- R97: with no page the mark is delivered at once, with page number 0. -/
theorem test_takeMark : ((after (queue bound (.mark 9)) .takeMark).port .a).capture = some ⟨2, 9, 0, .one, 0⟩ := by decide +kernel
/-- R94: the open page closes and releases its reservation. -/
theorem test_takeClose : ((after (withPage (queue bound .close) openPage) .takeClose).pages.map fun p => (p.state, p.reservation))
    = [(.closed, 0)] := by decide +kernel
/-- R51. -/
theorem test_takeXlateLoad : ((after (queue bound (.xlateLoad 1 0x22 [.glyph 34 (some 3)])) .takeXlateLoad).tables.get 1).lookup 0x22
    = .glyph 34 (some 3) := by decide +kernel
/-- R80: another stream's buffer on the set makes the load wait in FENCE. -/
theorem test_takeXlateLoad_fence :
    ((after (queue (bound.updStream 5 fun t => { t with buffer := some buffer }) (.xlateLoad 0 1 [.void])) .takeXlateLoad).stream 2).wait
    = .fence 0 := by decide +kernel
/-- Section 3.7, example 1: the entries stand in key order. -/
theorem test_takePairLoad : ((after (queue bound (.pairLoad 1 [⟨69, 1, 201⟩, ⟨67, 2, 199⟩])) .takePairLoad).tables.get 1).pairs
    = [⟨67, 2, 199⟩, ⟨69, 1, 201⟩] := by decide +kernel
/-- R54. -/
theorem test_takePairClear :
    ((after (queue { bound with tables := bound.tables.modify 0 fun t => { t with pairs := [⟨67, 2, 199⟩] } } (.pairClear 0))
      .takePairClear).tables.get 0).pairs = [] := by decide +kernel
/-- R110. -/
theorem test_takeGeometryLoad : (after (queue bound (.geometryLoad 3 ⟨0, 0, 1, 1⟩)) .takeGeometryLoad).geometry.get 3 = ⟨0, 0, 1, 1⟩ := by
  decide +kernel
/-- R79. -/
theorem test_takeStreamSet : ((after (queue bound (.streamSet ⟨1, 7, none, .two, .two, 9, .print⟩)) .takeStreamSet).stream 2).attributes
    = ⟨1, 7, none, .two, .two, 9, .print⟩ := by decide +kernel
/-- R127. -/
theorem test_takeOverlayBegin : (after (queue bound (.overlayBegin 4 2)) .takeOverlayBegin).slot 4 = ⟨.loading 2, [], 2⟩ := by decide +kernel
/-- R126: a slot a page pins makes the BEGIN wait in PIN. -/
theorem test_takeOverlayBegin_pin :
    ((after (queue (withPage bound { closedPage with overlay := some 4 }) (.overlayBegin 4 2)) .takeOverlayBegin).stream 2).wait = .pin 4 := by
  decide +kernel
/-- R129: entries beyond the declared count are dropped. -/
theorem test_takeOverlayEntries :
    ((after (queue (bound.updSlot 4 fun _ => ⟨.loading 2, [], 1⟩) (.overlayEntries [⟨.hrule 9 1, 0, 0, 1, 0⟩, ⟨.vrule 9 1, 0, 0, 1, 0⟩]))
      .takeOverlayEntries).slot 4).entries = [⟨.hrule 9 1, 0, 0, 1, 0⟩] := by decide +kernel
/-- R130: the slot becomes READY. -/
theorem test_takeOverlayEnd : ((after (queue (bound.updSlot 4 fun _ => ⟨.loading 2, [], 1⟩) .overlayEnd) .takeOverlayEnd).slot 4).state
    = .ready := by decide +kernel
/-- R59: with no command waiting the composer makes its grant. -/
theorem test_step_grants :
    (match step (queue bound .close) with | .next s => s.taking | _ => none) = some (.granted 2) := by decide +kernel
/-- R185, R186: a STOP that falls in a taking leaves STOPPING, which ends in STOPPED, its cause kept, when the taking completes. -/
theorem test_stop_in_taking :
    let s := after (holding (underWay .close) (recordBytes 2 2 0 false false [8])) (.stop .a)
    (s.run, (after s .takeClose).run, (after s .takeClose).cause, (after s .takeClose).taking)
      = (.stopping, .stopped, .control, none) := by decide +kernel
/-- R76: a HALT acted on in STOPPING leaves the cause as it was. -/
theorem test_halt_in_stopping :
    let r : Resolved := { resolved .close false with halt := true }
    let s := { (underWay .close).updStream 2 fun t => { t with queue := [r] } with run := .stopping, cause := .control }
    ((after s .takeClose).run, (after s .takeClose).cause) = (.stopped, .control) := by decide +kernel
/-- R164, R59: an engine report may fall in a taking, which completes in CHECK. -/
theorem test_report_in_taking :
    let s := after (underWay .close) .notReady
    (s.run, (after s .takeClose).run, ((after s .takeClose).stream 2).queue) = (.check, .check, []) := by decide +kernel
/-- R19: a CANCEL before the taking discards its record, which has no effect: no mark is delivered. -/
theorem test_cancel_in_taking :
    let s := after (holding (underWay (.mark 9)) (recordBytes 2 2 0 false false [4])) (.cancel .a)
    (s.taking, (after s .takeMark).taking, ((after s .takeMark).port .a).capture) = (some (.discarded (.mark 9)), none, none) := by
  decide +kernel
/-- R62. -/
theorem test_pageAgeExpiry : ((after (bound.updStream 2 fun t => { t with pageAge := .running 5 }) (.pageAgeExpiry 2)).stream 2).pageAge
    = .expired := by decide +kernel

/-! ### Imager, engine and panel -/

/-- R140: the page becomes IMAGING in buffer X, with tray 1's sheet size. -/
theorem test_selection :
    let s := after (withPage bound closedPage) .selection
    (s.pages.map Page.state, (s.buffer 0).width, (s.buffer 0).height, s.offer) = ([.imaging], 2550, 3300, [0]) := by decide +kernel
/-- R142. -/
theorem test_renderingComplete : ((after (drawn { closedPage with state := .imaging } .rendering) .renderingComplete).buffer 0).state
    = .ready := by decide +kernel
/-- R155: the issue takes tag 0 and starts the stack timer. -/
theorem test_sheet :
    let s := after (drawn { closedPage with state := .imaging } .ready) .sheet
    (s.issue, s.stackTimer, s.pages.map Page.copiesIssued) = (1, some 20, [1]) := by decide +kernel
/-- R144: the last copy's buffer becomes FREE. -/
theorem test_sendComplete :
    ((after (drawn { closedPage with state := .issued, copiesIssued := 1 } .sending) .sendComplete).buffer 0).state = .free := by
  decide +kernel
/-- R166. -/
theorem test_ready : (after { bound with run := .check, cause := .trayEmpty } .ready).run = .run := by decide +kernel
/-- R165. -/
theorem test_notReady : ((after bound .notReady).run, (after bound .notReady).cause) = (.check, .notReady) := by decide +kernel
/-- R165. -/
theorem test_trayEmpty : (after bound (.trayEmpty 2)).cause = .trayEmpty := by decide +kernel
/-- R165. -/
theorem test_stackerFull : (after bound (.stackerFull 1)).cause = .stackerFull := by decide +kernel
/-- R157, R101: the confirmed page is stacked and freed. -/
theorem test_stacked :
    let s := after (issued closedPage true) (.stacked 0)
    (s.pages, s.sheetsStacked, s.stackTimer, (s.stream 2).pagesStacked) = ([], 1, none, 1) := by decide +kernel
/-- R158: with no sheet outstanding a STACKED is LATE STACK alone. -/
theorem test_stacked_late : ((after bound (.stacked 3)).port .b).deviceSet.get 2 = true ∧ (after bound (.stacked 3)).run = .run := by
  decide +kernel
/-- R161: the page returns to CLOSED on the recovery list, and the run state is CHECK. -/
theorem test_jam :
    let s := after (issued closedPage true) .jam
    (s.pages.map Page.state, s.recovery, s.outstanding, s.run, s.cause) = ([.closed], [closedPage.ref], 0, .check, .jam) := by
  decide +kernel
/-- R164, R165. -/
theorem test_restarted : ((after bound .restarted).cause, (after bound .restarted).engineReady) = (.engineRestart, false) := by
  decide +kernel
/-- R149. -/
theorem test_unrecognisedReport : (after bound (.unrecognisedReport 0x99)).run = .run := by decide +kernel
/-- R160. -/
theorem test_stackTimeout : ((after (issued closedPage true) .stackTimeout).port .a).deviceSet.get 1 = true := by decide +kernel

/-- The keys as released. -/
def released : Keys := ⟨⟨false, false⟩, ⟨false, false⟩, ⟨false, false⟩⟩

/-- R189: START alone pressing. -/
theorem test_panelStart :
    (after { bound with run := .stopped, keys := { released with start := ⟨false, true⟩ } } (.panelStart ⟨true, false, false⟩)).run = .run := by
  decide +kernel
/-- R189: START and STOP together give STOP. -/
theorem test_panelStop :
    (after { bound with keys := { released with start := ⟨false, true⟩, stop := ⟨false, true⟩ } } (.panelStop ⟨true, true, false⟩)).run
    = .stopped := by decide +kernel
/-- R190: PURGE in STOPPED. -/
theorem test_purge :
    let s := { withPage bound closedPage with run := .stopped, keys := { released with start := ⟨false, true⟩, reset := ⟨true, true⟩ } }
    ((after s (.purge ⟨true, false, true⟩)).pages, (after s (.purge ⟨true, false, true⟩)).cause) = ([], .purge) := by decide +kernel
/-- R188: a key not held through power-on is RELEASED after two samples. -/
theorem test_keySample :
    (after (after State.reset (.keySample ⟨false, false, false⟩)) (.keySample ⟨false, false, false⟩)).keys = released := by decide +kernel

/-! ### Witnesses: states and operands that meet the hypotheses of the statements -/

theorem witness_StepRunsTheFrontCommand :
    State.reset.pending = [] ∧ State.reset.grant = none ∧ (queue bound .close).pending = [] ∧ (queue bound .close).taking = none ∧
    (queue bound .close).grant = some (2, resolved .close false) ∧ (underWay .close).taking ≠ none := by decide +kernel

/-- Byte 4 of a header (three kept), the first data byte of one declared, and a byte past the declared length. -/
theorem witness_PortLinesAndBytes :
    (bound.port .a).reception ≠ .receiving ∧ (bound.port .a).reception ≠ .answering ∧
    ((holding bound [0x12, 0, 0]).port .a).reception = .receiving ∧ ((holding bound [0x12, 0, 0]).port .a).bytes.length < 4 ∧
    ((holding bound [0x12, 0, 0, 1]).port .a).bytes = 0x12#8 :: 0 :: 0 :: 1 :: [] ∧
    ((holding bound [0x12, 0, 0, 0]).port .a).bytes = 0x12#8 :: 0 :: 0 :: 0 :: [] ∧
    ((bound.updPort .a fun q => { q with reception := .answering }).port .a).reception = .answering := by decide +kernel

theorem witness_PortResetActsOnThePortAndItsStreams :
    ((bound.updPort .a fun q => { q with reset := true }).port .a).reset = true ∧ (bound.port .a).reset = false ∧
    (bound.stream 2).binding = some .a ∧ (bound.stream 5).binding ≠ some .a ∧ (bound.stream 7).binding ≠ some .a := by
  decide +kernel

/-- A stream of the other port in a FENCE wait that a buffer of the reset port's holds, and in a PIN wait that its page holds. -/
theorem witness_PortResetActsOnThePortAndItsStreams_waits :
    let s := (withPage bound { closedPage with overlay := some 7 }).updStream 2 fun t => { t with buffer := some buffer }
    ((s.updStream 5 fun t => { t with wait := .fence 0 }).stream 5).wait = .fence 0 ∧ buffer.tableSet = 0 ∧
    (s.updStream 5 fun t => { t with wait := .pin 7 }).pinCount 7 = 1 ∧ (s.stream 5).binding = some .b := by decide +kernel

/-- Records of the command's own row, of an undefined class and of an unknown selector; and records of other rows. -/
theorem witness_HeaderChecksRefuseInOrder_mayEnd :
    MayEnd .a (.print .a) 0x12 [1] ∧ MayEnd .a (.print .a) 0x52 [] ∧ MayEnd .a (.stop .a) 0x22 [8] ∧
    MayEnd .a (.senseMark .a) 0x22 [1, 4] ∧ ¬ MayEnd .a (.stop .a) 0x22 [9] ∧ ¬ MayEnd .a (.senseMark .a) 0x22 [1, 2] := by
  simp [MayEnd, recordCommands, controlCommands, senseCommands]

/-- No record; a FRAME that falls with no byte and with three; one record for each check the header can fail; an undefined class; and
CONTROL records: a STREAM OPEN passes the binding of an unbound stream, another code does not. -/
theorem witness_HeaderChecksRefuseInOrder :
    (1, Instr.print .a) ∈ recordCommands .a ∧ (bound.port .a).reception ≠ .receiving ∧
    (holding bound []).Received .a [] ∧ (holding bound [0x12, 0, 0]).Received .a [0x12, 0, 0] ∧
    headerRefusal bound .a 0x12 0 0 2 [1] false = some .shortRecord ∧
    headerRefusal bound .a 0x12 0 0 1 [1] true = some .length ∧
    headerRefusal bound .a 0x18 0 0 0 [] false = some .classInvalid ∧
    headerRefusal bound .a 0x52 0 0 0 [] false = some .classInvalid ∧
    headerRefusal bound .a 0x12 0 0x20 0 [] false = some .classInvalid ∧
    headerRefusal bound .a 0x11 0 0 0 [] false = some .streamNotOpen ∧
    headerRefusal bound .a 0x21 0 0 1 [3] false = some .streamNotOpen ∧
    headerRefusal bound .a 0x21 0 0 1 [2] false = none ∧
    headerRefusal bound .a 0x25 0 0 1 [2] false = some .streamBusy ∧
    headerRefusal bound .a 0x32 0 0 1 [1] false = some .length ∧
    headerRefusal bound .a 0x42 0 0 1 [1] false = some .length ∧
    headerRefusal bound .a 0x22 0x11 0 1 [8] false = some .carriageInvalid ∧
    headerRefusal bound .a 0x42 0x11 0 0 [] false = some .carriageInvalid ∧
    headerRefusal bound .a 0x12 0x14 0 0 [] false = some .carriageInvalid ∧
    headerRefusal bound .a 0x12 0x28 0 0 [] false = some .carriageInvalid := by decide +kernel

/-- No data and an unknown code; a SYNC on an immediate; no count, a byte too many; and a number one past its range. -/
theorem witness_ControlRecordsAreChecked :
    (control []).ControlReceived .a 2 0 false false [] ∧ (control [0x0B]).ControlReceived .a 2 0 false false [0x0B] ∧
    (holding bound (recordBytes 2 2 0 true false [3])).ControlReceived .a 2 0 true false [3] ∧
    (0x03, true, Instr.streamRelease .a) ∈ controlCommands .a ∧
    (control [5]).ControlReceived .a 2 0 false false [5] ∧ requiredLength 5 [5] ≠ some 1 ∧
    (control [3, 0]).ControlReceived .a 2 0 false false [3, 0] ∧ requiredLength 3 [3, 0] ≠ some 2 ∧
    (control [7, 2]).ControlReceived .a 2 0 false false [7, 2] ∧ requiredLength 7 [7, 2] = some 2 ∧ ¬ byteAt [7, 2] 1 ≤ 1 := by
  decide +kernel

/-- A STREAM OPEN of an unbound stream with SYNC, with HALT, of its code alone, and a byte too long. -/
theorem witness_ControlRecordsAreChecked_unbound :
    let s := fun (sync halt : Bool) (data : List Byte) => holding bound (recordBytes 2 3 0 sync halt data)
    (bound.stream 3).binding = none ∧ (0x02, true, Instr.streamOpen .a) ∈ controlCommands .a ∧
    (s true false [2]).Received .a (recordBytes 2 3 0 true false [2]) ∧
    (s false true [2]).Received .a (recordBytes 2 3 0 false true [2]) ∧
    (s false false [2]).Received .a (recordBytes 2 3 0 false false [2]) ∧ requiredLength 2 [2] ≠ some 1 ∧
    let long : List Byte := [2, 0, 16, 0, 0, 0, 0, 0, 0, 0]
    (s false false long).Received .a (recordBytes 2 3 0 false false long) ∧ requiredLength 2 long ≠ some long.length := by
  decide +kernel

theorem witness_SenseRecordsAreChecked :
    (control [1]).ControlReceived .a 2 0 false false [1] ∧ (control [1, 0]).ControlReceived .a 2 0 false false [1, 0] ∧
    (control [1, 4, 0, 0]).ControlReceived .a 2 0 false false [1, 4, 0, 0] ∧
    (control [1, 2]).ControlReceived .a 2 0 false false [1, 2] ∧ (control [1, 2, 8]).ControlReceived .a 2 0 false false [1, 2, 8] ∧
    (holding bound (recordBytes 2 2 0 false true [1, 1])).ControlReceived .a 2 0 false true [1, 1] := by decide +kernel

/-- Attention pending under hold, a queue at its quota, a full pool, a run state that is not RUN. -/
def held : List State :=
  [bound.updPort .a fun q => { q with hold := true, causes := { q.causes with run := true } },
    bound.updStream 2 fun t => { t with queue := List.replicate 16 (resolved .close false), quota := 16 },
    (bound.updStream 2 fun t => { t with quota := 2048 }).updStream 5 fun t =>
      { t with queue := List.replicate 2048 (resolved .close false) },
    { bound with run := .check }]

/-- Data of the width and one byte beyond it, with every kind of action. -/
theorem witness_PrintRecordIsHeldOrTaken :
    (held.map fun s => decide (s.QueueHolds 2 ∨ (s.port .a).hold = true ∧ s.attention .a = true)) = [true, true, true, true] ∧
    ¬(bound.QueueHolds 2 ∨ (bound.port .a).hold = true ∧ bound.attention .a = true) ∧ (bound.stream 2).binding = some .a ∧
    (bound.stream 2).carriage.width = 132 ∧
    (record bound 1 0x0F (List.replicate 132 65)).Received .a (recordBytes 1 2 0x0F false false (List.replicate 132 65)) ∧
    (record bound 1 0x13 (List.replicate 133 65)).Received .a (recordBytes 1 2 0x13 false false (List.replicate 133 65)) ∧
    CarriageByte 0x0F .none ∧ CarriageByte 0x11 (.space 1) ∧ CarriageByte 0x13 (.space 3) ∧ CarriageByte 0x21 (.skip 1) ∧
    CarriageByte 0x27 (.skip 7) := by decide +kernel

theorem witness_MarkAndCloseRecordsAreHeldOrTaken :
    (record bound 3 0 [0xFF, 0xFF]).Received .a (recordBytes 3 2 0 false false [0xFF, 0xFF]) ∧
    (record bound 4 0 []).Received .a (recordBytes 4 2 0 false false []) ∧ (bound.stream 2).carriage.line = 1 ∧
    ¬ bound.QueueHolds 2 ∧ (held.map fun s => decide (s.QueueHolds 2)) = [false, true, true, true] := by decide +kernel

/-- From line 65 of 66, SPACE 1 stays in the form and SPACE 2 leaves it. -/
theorem witness_SpaceMotion :
    let f := State.reset.forms.get 0
    65 + 1 ≤ f.length ∧ f.length < 65 + 2 ∧ (64 : Nat) + 3 > f.length ∧ 63 + 3 ≤ f.length := by decide

/-- The power-on stops, at lines 1 and 63: class 7 stops at 63 from line 62, not below line 63; class 1 in the form begun; class 2
nowhere. -/
theorem witness_SkipMotion :
    let st := (State.reset.forms.get 0).stops
    (∀ k : Fin 4, (State.reset.forms.get k).stops.Pairwise fun a b => a.line < b.line) ∧
    (∀ k : Fin 4, ∀ e ∈ (State.reset.forms.get k).stops, 1 ≤ e.line) ∧
    ((∃ e ∈ st, e.line = 63 ∧ e.classes.getLsbD 7 = true) ∧ 62 < 63 ∧
      ∀ e ∈ st, 62 < e.line → e.line < 63 → e.classes.getLsbD 7 = false) ∧
    (∀ e ∈ st, 63 < e.line → e.classes.getLsbD 1 = false) ∧ (∃ e ∈ st, e.line = 1 ∧ e.classes.getLsbD 1 = true) ∧
    (∀ e ∈ st, e.classes.getLsbD 2 = false) := by decide

/-- One record of each queued control, its numbers at the ends of their ranges. -/
def queuedData : List (List Byte) :=
  [[0x21, 1, 255, 1, 0x3F, 1, 0x7F], [0x22, 1, 1, 1, 0x7F, 15, 0, 0], [0x23, 1], [0x24, 7, 0x0C, 0xE3, 0x13, 0xEB, 0, 1, 0x13, 0xEC],
    [0x25, 1, 7, 255, 2, 2, 0, 1], [0x26, 7, 1, 0], [0x27, 1, 0x32, 0x13, 0xEB, 0, 0, 0x13, 0xEC, 0x13, 0xEC, 255, 0x13, 0xEC], [0x28]]

theorem witness_QueuedControlsAreReadAndQueued_received :
    (queuedData.map fun d => decide ((control d).ControlReceived .a 2 0 false false d ∧
      requiredLength (byteAt d 0) d = some d.length)) = List.replicate 8 true := by decide +kernel

theorem witness_QueuedControlsAreReadAndQueued_inRange :
    OperandsInRange 0x21 [0x21, 1, 255, 1, 0x3F, 1, 0x7F] ∧ OperandsInRange 0x22 [0x22, 1, 1, 1, 0x7F, 15, 0, 0] ∧
    OperandsInRange 0x23 [0x23, 1] ∧ OperandsInRange 0x24 [0x24, 7, 0x0C, 0xE3, 0x13, 0xEB, 0, 1, 0x13, 0xEC] ∧
    OperandsInRange 0x25 [0x25, 1, 7, 255, 2, 2, 0, 1] ∧ OperandsInRange 0x26 [0x26, 7, 1, 0] ∧
    OperandsInRange 0x27 [0x27, 1, 0x32, 0x13, 0xEB, 0, 0, 0x13, 0xEC, 0x13, 0xEC, 255, 0x13, 0xEC] ∧ OperandsInRange 0x28 [0x28] := by
  refine ⟨?_, ?_, ?_, ?_, ?_, ?_, ?_, ?_⟩ <;> simp only [OperandsInRange] <;> decide

theorem witness_SenseDeviceAndMarkReturnFrames :
    (control [1, 1]).ControlReceived .a 2 0 false false [1, 1] ∧ (control [1, 3]).ControlReceived .a 2 0 false false [1, 3] := by
  decide +kernel

/-- Its own stream, an unbound one, and one of the other port. -/
theorem witness_SenseStreamReturnsTwoFrames :
    (control [1, 2, 2]).ControlReceived .a 2 0 false false [1, 2, BitVec.ofNat 8 (2 : StreamNo).val] ∧
    ((control [1, 2, 2]).stream 2).binding = some .a ∧ ((control [1, 2, 7]).stream 7).binding = none ∧
    ((control [1, 2, 5]).stream 5).binding = some .b := by decide +kernel

/-- A first open with and without a page of the stream, a second open at a quota the queue fills and at one it exceeds; a release with
and without work. -/
theorem witness_StreamOpenAndRelease :
    let data : List Byte := [2, 0, 16, 0, 0, 0, 0, 0, 0]
    let again := fun k => record (bound.updStream 2 fun t => { t with queue := List.replicate k (resolved .close false) }) 2 0 data
    (holding State.reset (recordBytes 2 2 0 false false data)).Received .a (recordBytes 2 2 0 false false data) ∧
    (State.reset.stream 2).binding = none ∧ (∃ q ∈ (withPage State.reset closedPage).pages, q.stream = 2) ∧
    (again 16).Received .a (recordBytes 2 2 0 false false data) ∧ ((again 16).stream 2).binding = some .a ∧
    ((again 16).stream 2).queue.length ≤ max 16 (min (wordAt data 1) 2048) ∧
    max 16 (min (wordAt data 1) 2048) < ((again 17).stream 2).queue.length ∧
    (control [3]).ControlReceived .a 2 0 false false [3] ∧ ((control [3]).stream 2).queue = [] ∧
    ((queue (control [3]) .close).stream 2).queue ≠ [] := by decide +kernel

theorem witness_CancelDiscardsTheStreamsWork : (control [4]).ControlReceived .a 2 0 false false [4] := by decide +kernel

/-- Form 0 is in force on streams 2 and 5, at line 1; the last stop at the last line. -/
theorem witness_FormLoadReplacesTheForm :
    let data : List Byte := [5, 0, 144, 8, 144, 2, 1, 2, 144, 0xFE]
    (control data).ControlReceived .a 2 0 false false data ∧ requiredLength 5 data = some data.length ∧
    (¬ ∃ j : StreamNo, ((control data).stream j).binding ≠ none ∧ ((control data).stream j).carriage.form = 0 ∧
      (((control data).stream j).carriage.line ≠ 1 ∨ ((control data).stream j).carriage.started = true)) ∧
    let used := (control data).updStream 5 fun t => { t with carriage := { t.carriage with started := true } }
    (∃ j : StreamNo, (used.stream j).binding ≠ none ∧ (used.stream j).carriage.form = 0 ∧ (used.stream j).carriage.started = true) := by
  decide +kernel

theorem witness_FormLoadReplacesTheForm_inRange : OperandsInRange 5 [5, 0, 144, 8, 144, 2, 1, 2, 144, 0xFE] := by
  simp only [OperandsInRange]
  decide

theorem witness_FormSelectPortSetAndEngineSet :
    (control [6, 3, 160]).ControlReceived .a 2 0 false false [6, 3, 160] ∧
    (control [7, 1]).ControlReceived .a 2 0 false false [7, 1] ∧
    let data : List Byte := [10, 255, 255, 0, 0, 0, 0, 255, 255, 255, 255, 1, 1]
    (control data).ControlReceived .a 2 0 false false data ∧ (control data).run ≠ .stopped ∧
    ({ control data with run := .stopped } : State).ControlReceived .a 2 0 false false data := by decide +kernel

theorem witness_FormSelectPortSetAndEngineSet_inRange :
    OperandsInRange 10 [10, 255, 255, 0, 0, 0, 0, 255, 255, 255, 255, 1, 1] := by
  simp only [OperandsInRange]
  decide

theorem witness_StopAndStartByRunState :
    (bound.outstanding = 0 ∧ bound.taking = none) ∧ (issued closedPage true).outstanding ≠ 0 ∧
    (control [8]).ControlReceived .a 2 0 false false [8] ∧ (control [9]).ControlReceived .a 2 0 false false [9] := by decide +kernel

/-- Stream 2 in line with one record; its taking under way in STOPPING; and a taking whose record is gone. -/
theorem witness_GrantGoesToTheFirstInLine :
    (queue bound .close).taking = none ∧ (queue bound .close).grant = some (2, resolved .close false) ∧
    ({ underWay .close with run := .stopping } : State).grant = some (2, resolved .close false) ∧
    ({ bound with taking := some (.discarded .close) } : State).taking = some (.discarded .close) := by decide +kernel

/-- A full Page Store: 64 pages of stream 5. -/
def full : State :=
  { bound with
    pages := (List.range 64).map fun k => { closedPage with stream := 5, number := k, serial := k }
    pagesOpened := 64 }

/-- Nothing to grant; and a CLOSE whose buffer's line finds no page record. -/
theorem witness_TakingsOfOtherKindsWaitsAndDiscards :
    bound.grant = none ∧ bound.taking = none ∧
    ({ bound with taking := some (.discarded .close) } : State).taking = some (.discarded .close) ∧
    let s := queue (full.updStream 2 fun t => { t with buffer := some buffer }) .close
    s.grant = some (2, resolved .close false) ∧
    (s.beginGrant 2).spaceTest 2 (s.takingLines 2 (resolved .close false)) = false := by decide +kernel

/-- A granted record of each kind. -/
def granted (body : Body) (advance : Bool := false) : State := queue (bound.updStream 2 fun t => { t with buffer := some buffer }) body advance

theorem witness_TakePrintStrikesTheBuffer :
    ({ underWay (.print [65]) with run := .stopping } : State).Granted 2 (resolved (.print [65]) false) ∧
    (granted (.print [65]) true).Granted 2 (resolved (.print [65]) true) ∧
    (queue bound (.print [])).Granted 2 (resolved (.print [])  false) := by decide +kernel

theorem witness_MarkCloseGeometryAndStreamSetAreTaken :
    (granted (.mark 9)).Granted 2 (resolved (.mark 9) false) ∧ (granted .close).Granted 2 (resolved .close false) ∧
    (granted (.geometryLoad 7 ⟨0, 0, 1, 1⟩)).Granted 2 (resolved (.geometryLoad 7 ⟨0, 0, 1, 1⟩) false) ∧
    (granted (.streamSet ⟨1, 7, none, .two, .two, 9, .print⟩)).Granted 2
      (resolved (.streamSet ⟨1, 7, none, .two, .two, 9, .print⟩) false) := by decide +kernel

/-- The fence is met while stream 5 has a buffer on the set, and not on the other set. -/
theorem witness_TableLoadsMeetTheFence :
    let other := fun body => (granted body).updStream 5 fun t => { t with buffer := some buffer }
    (other (.xlateLoad 0 255 [.void])).Granted 2 (resolved (.xlateLoad 0 255 [.void]) false) ∧
    (other (.pairLoad 1 [⟨69, 1, 201⟩])).Granted 2 (resolved (.pairLoad 1 [⟨69, 1, 201⟩]) false) ∧
    (other (.pairClear 0)).Granted 2 (resolved (.pairClear 0) false) ∧
    ((other (.pairClear 0)).stream 5).buffer = some buffer ∧ buffer.tableSet = 0 ∧
    ∀ j : StreamNo, j ≠ 2 → ∀ b ∈ ((other (.pairClear 0)).stream j).buffer, b.tableSet ≠ 1 := by decide +kernel

/-- A table at 127 and at 128 entries, in key order. -/
theorem witness_LoadedTablesHoldTheEntries :
    let table := fun k : Nat => (List.range k).map fun j : Nat => (⟨Fin.ofNat 384 j, 1, 0⟩ : PairEntry)
    (table 127).Pairwise (fun a b => a.keyBefore b = true) ∧ (table 127).length < 128 ∧
    (table 128).Pairwise (fun a b => a.keyBefore b = true) ∧ 128 ≤ (table 128).length ∧
    (∃ p ∈ table 128, p.glyph = 127 ∧ p.mark = 1) ∧ (¬ ∃ p ∈ table 128, p.glyph = 128 ∧ p.mark = 1) := by decide +kernel

/-- A base and an over glyph that differ from the incoming one, with the keys of rules 4 and 5 in the table and without. -/
theorem witness_StrikesMergeIntoCells :
    let c : Cell := { base := some 69, baseMark := some 1, overGlyph := some 7, weight := 3, underline := false }
    let pairs : List PairEntry := [⟨33, 1, 5⟩, ⟨69, 2, 9⟩]
    pairs.Pairwise (fun a b => a.keyBefore b = true) ∧ c.base ≠ none ∧ c.base ≠ some 33 ∧ c.overGlyph ≠ some 33 ∧
    c.overGlyph = some 7 ∧ Cell.empty.base = none ∧ (List.replicate 160 (0x41 : Byte)).length ≤ 160 ∧
    (⟨69, 2, 9⟩ : PairEntry) ∈ pairs ∧ (⟨33, 1, 5⟩ : PairEntry) ∈ pairs := by decide +kernel

/-- A BEGIN on a slot that no page pins and on one that a page pins, with no open load, with its own and with another stream's. -/
theorem witness_OverlayBeginMeetsThePinTest :
    let r := resolved (.overlayBegin 4 256) false
    let s := granted (.overlayBegin 4 256)
    s.Granted 2 r ∧ s.pinCount 4 = 0 ∧ (∀ m : Fin 8, (s.slot m).state ≠ .loading 2) ∧
    (s.updSlot 3 fun _ => ⟨.loading 2, [], 1⟩).Granted 2 r ∧ (s.updSlot 3 fun _ => ⟨.loading 2, [], 1⟩).openLoad 2 = some 3 ∧
    (s.updSlot 4 fun _ => ⟨.loading 5, [], 1⟩).Granted 2 r ∧
    (withPage s { closedPage with overlay := some 4 }).Granted 2 r ∧ 1 ≤ (withPage s { closedPage with overlay := some 4 }).pinCount 4 := by
  decide +kernel

theorem witness_OverlayEntriesAndEndAreTaken :
    let body := Body.overlayEntries [⟨.hrule 9 1, 0, 0, 1, 0⟩]
    let loading := fun b => (granted b).updSlot 4 fun _ => ⟨.loading 2, [], 1⟩
    (granted body).Granted 2 (resolved body false) ∧ (granted body).openLoad 2 = none ∧
    (loading body).Granted 2 (resolved body false) ∧ (loading body).openLoad 2 = some 4 ∧
    ((loading body).beginGrant 2 |>.emit 2).pinCount 4 = 0 ∧
    (loading .overlayEnd).Granted 2 (resolved .overlayEnd false) ∧ (granted .overlayEnd).Granted 2 (resolved .overlayEnd false) ∧
    1 ≤ ((withPage (loading body) { closedPage with overlay := some 4 }).beginGrant 2 |>.emit 2).pinCount 4 ∧
    (withPage (loading body) { closedPage with overlay := some 4 }).Granted 2 (resolved body false) := by decide +kernel

/-- No buffer; an empty one; one whose last ink is at position 160. -/
theorem witness_EmissionHandsTheLineOver :
    (bound.stream 2).buffer = none ∧
    (∀ j : Fin 160, ((resolved .close false).opens 0).cells.get j = Cell.empty) ∧
    let b : Assembly := { buffer with cells := buffer.cells.set 159 { Cell.empty with underline := true } }
    (b.cells.get 159).underline = true ∧ ∀ j : Fin 160, j ≤ 159 := by decide +kernel

/-- A stream with no page, with the OPEN page of sequence 1; lines of sequences 1 and 18. -/
theorem witness_LinesOpenAndFillPages :
    bound.StoreLaw ∧ bound.openPage 2 = none ∧ (withPage bound openPage).StoreLaw ∧
    (withPage bound openPage).openPage 2 = some openPage ∧ openPage.sequence = 1 ∧ openPage.sequence ≠ 18 := by decide +kernel

/-- A form of 12 lines with 12 unreserved slots, and one line slot short. -/
theorem witness_SpaceTestOfALine :
    bound.StoreLaw ∧ bound.openPage 2 = none ∧ (withPage bound openPage).StoreLaw ∧
    (withPage bound openPage).openPage 2 = some openPage := by decide +kernel

theorem witness_PageCloseAndPageAge :
    bound.openPage 2 = none ∧ (withPage bound openPage).openPage 2 = some openPage ∧ openPage.reservation ≠ 0 ∧
    (withPage bound { openPage with reservation := 0 }).openPage 2 = some { openPage with reservation := 0 } := by decide +kernel

/-- Seven marks and eight; an OPEN page, a CLOSED one alone, and none; a bound and an unbound stream. -/
theorem witness_MarksAttachOrAreDelivered :
    let p : Page := { openPage with marks := List.replicate 7 9 }
    let q : Page := { closedPage with marks := List.replicate 8 9 }
    (withPage bound p).openPage 2 = some p ∧ p.marks.length < 8 ∧ (withPage bound q).openPage 2 = none ∧
    ((withPage bound q).pages.filter fun x => decide (x.stream = 2)).getLast? = some q ∧ 8 ≤ q.marks.length ∧
    (∀ x ∈ bound.pages, x.stream ≠ 2) ∧ (bound.stream 7).binding = none ∧ (bound.stream 2).binding = some .a := by decide +kernel

theorem witness_SyncWaitsForTheNewestPage :
    (withPage bound openPage).openPage 2 = some openPage ∧ (withPage bound closedPage).openPage 2 = none ∧
    ((withPage bound closedPage).pages.filter fun x => decide (x.stream = 2)).getLast? = some closedPage ∧
    bound.openPage 2 = none ∧ ∀ x ∈ bound.pages, x.stream ≠ 2 := by decide +kernel

/-- The native tests of the default geometry at the widths and lengths where they begin to fail. -/
theorem witness_PlacementOfPositionsAndLines :
    let g := Geometry.default
    1 ≤ g.sx ∧ 1 ≤ g.sy ∧ 30 * 80 ≤ g.sx ∧ g.sx < 30 * 81 ∧ 63 * 300 ≤ g.sy * 6 ∧ g.sy * 6 < 64 * 300 ∧ 84 * 300 ≤ g.sy * 8 ∧
    g.sy * 8 < 85 * 300 := by decide

theorem witness_DrawingAndClipping :
    let cells : List LineCell := [⟨some 65, some 7, 1, true⟩, ⟨none, none, 1, true⟩, ⟨some 65, none, 3, false⟩]
    ∀ c ∈ cells, soundInk c.base c.overGlyph c.weight := by decide

/-- Buffer X free, or Y alone; the recovery list's head, a candidate, and none; the run state and a renderer that prevent it. -/
theorem witness_SelectionTakesTheNextPage :
    let s := withPage bound closedPage
    let r : State := { s with recovery := [closedPage.ref] }
    (∀ b : Fin 2, (s.buffer b).state ≠ .rendering) ∧ s.run ≠ .stopped ∧ (s.buffer 0).state = .free ∧
    ((s.setBuffer 0 { Raster.free with state := .ready }).buffer 0).state ≠ .free ∧
    ((s.setBuffer 0 { Raster.free with state := .ready }).buffer 1).state = .free ∧
    r.recovery = closedPage.ref :: [] ∧ r.findPage closedPage.ref = some closedPage ∧
    s.recovery = [] ∧ s.pages = [] ++ closedPage :: [] ∧ closedPage.state = .closed ∧
    (∀ p ∈ (withPage bound openPage).pages, p.state ≠ .closed) ∧ ({ s with run := .stopped } : State).run = .stopped ∧
    ((drawn closedPage .rendering).buffer 0).state = .rendering := by decide +kernel

theorem witness_RenderingCompletes :
    let p : Page := { closedPage with state := .imaging }
    (∀ b : Fin 2, (bound.buffer b).state ≠ .rendering) ∧ ((drawn p .rendering).buffer 0).state = .rendering ∧
    ((drawn p .rendering).buffer 0).page = some p.ref ∧ (drawn p .rendering).findPage p.ref = some p := by decide +kernel

/-- The last copy and one before the last. -/
theorem witness_SendCompletesInTheRasterFormat :
    let p : Page := { closedPage with state := .issued, copiesIssued := 1, copies := 1 }
    let q : Page := { p with copies := 2 }
    (∀ b : Fin 2, (bound.buffer b).state ≠ .sending) ∧ ((drawn p .sending).buffer 0).state = .sending ∧
    ((drawn p .sending).buffer 0).page = some p.ref ∧ (drawn p .sending).findPage p.ref = some p ∧ p.copies ≤ p.copiesIssued ∧
    (drawn q .sending).findPage q.ref = some q ∧ q.copiesIssued < q.copies := by decide +kernel

/-- The head READY; and a path already full. -/
theorem witness_SheetIsIssuedFromTheHead :
    let p : Page := { closedPage with state := .imaging }
    let s := drawn p .ready
    (s.run = .run ∧ s.engineReady = true ∧ s.outstanding < s.settings.pathDepth) ∧ s.offer.head? = some 0 ∧
    (s.buffer 0).state = .ready ∧ (s.buffer 0).page = some p.ref ∧ s.findPage p.ref = some p ∧
    ({ s with issue := 4 } : State).outstanding = s.settings.pathDepth := by decide +kernel

/-- The last copy and one before the last; and a page that is gone from the store. -/
theorem witness_StackedConfirmsTheOldest :
    let s := issued closedPage true
    1 ≤ s.outstanding ∧ s.ring.get (tagIndex s.confirm) = some ⟨closedPage.ref, true⟩ ∧ (s.findPage closedPage.ref).isSome = true ∧
    closedPage.copies ≤ closedPage.copiesStacked + 1 ∧
    (issued { closedPage with copies := 2 } true).findPage closedPage.ref
      = some { closedPage with copies := 2, state := .issued, copiesIssued := 1 } ∧
    ({ s with pages := [] } : State).findPage closedPage.ref = none := by decide +kernel

/-- The tag before the confirm counter's, and a sheet whose data is not complete. -/
theorem witness_JamClassEventsAndEngineCauses :
    bound.stackTimer = none ∧ (issued closedPage true).stackTimer ≠ none ∧
    let s : State := { issued closedPage false with issue := 2 }
    ((1 : BitVec 4) - s.confirm).toNat < s.outstanding ∧ (1 : BitVec 4) ≠ s.confirm ∧
    ((0 : BitVec 4) - s.confirm).toNat < s.outstanding ∧ s.ring.get (tagIndex 0) = some ⟨closedPage.ref, false⟩ := by decide +kernel

theorem witness_ReportsOfTheEngine :
    ({ bound with run := .check, cause := .engineRestart } : State).cause = .engineRestart ∧
    ({ bound with run := .check, cause := .jam } : State).cause = .jam ∧
    (issued closedPage true).outstanding ≤ ((1 : BitVec 4) - (issued closedPage true).confirm).toNat := by decide +kernel

theorem witness_KeysGiveACommand :
    ({ released with start := ⟨false, true⟩ } : Keys).command ⟨true, false, false⟩ = .start ∧
    ({ released with stop := ⟨false, true⟩ } : Keys).command ⟨false, true, false⟩ = .stop ∧
    ({ released with start := ⟨false, true⟩, reset := ⟨false, true⟩ } : Keys).command ⟨true, false, true⟩ = .purge ∧
    released.command ⟨true, true, true⟩ = .none := by decide

theorem witness_PurgeClearsTheDevice :
    bound.run = .run ∧ State.reset.run = .stopped ∧ (bound.stream 2).binding ≠ none ∧ (bound.stream 7).binding = none ∧
    ((State.reset.updSlot 4 fun _ => ⟨.ready, [], 1⟩).slot 4).state = .ready := by decide +kernel

/-- A page with a sheet outstanding, a pair table of two entries, and a buffer to emit. -/
def lawful : State :=
  let s := (issued closedPage true).updStream 2 fun t => { t with buffer := some buffer, queue := [resolved .close false] }
  { s with
    tables := s.tables.modify 1 fun t => { t with pairs := [⟨67, 2, 199⟩, ⟨69, 1, 201⟩] }
    pending := [.takeClose] }

theorem witness_EveryStepKeepsTheLaws :
    lawful.SpoolLaw ∧ lawful.PairLaw ∧ lawful.CellLaw ∧ lawful.StoreLaw ∧
    (match step lawful with | .next t => t.pages.length | _ => 0) = 2 := by decide +kernel

/-- The newest sheet's data is being sent from buffer X, the head of the offer order. -/
def sending : State :=
  { issued closedPage false with
    buffers := (Bank.replicate 2 Raster.free).set 0 ⟨.sending, some closedPage.ref, 0, 0, false, []⟩, offer := [0],
    pending := [.sendComplete] }

theorem witness_EveryStepKeepsTheEngineLaw : sending.EngineLaw ∧ (match step sending with | .next t => t.offer.length | _ => 1) = 0 := by
  refine ⟨⟨by decide +kernel, fun b hb => ?_, by decide +kernel⟩, by decide +kernel⟩
  have h : b = 0 := by revert b; decide +kernel
  subst h
  exact ⟨by decide +kernel, by decide +kernel, ⟨closedPage.ref, false⟩, by decide +kernel, rfl⟩

/-- A stop asked for while a taking is under way: the taking's completion ends STOPPING. -/
theorem witness_EveryStepKeepsTheRestLaw :
    let s : State := { underWay .close with run := .stopping, pending := [.takeClose] }
    s.RestLaw ∧ (match step s with | .next t => t.run | _ => .run) = .stopped := by decide +kernel

theorem witness_PinnedOverlayListsDoNotChange :
    1 ≤ (withPage bound { closedPage with overlay := some 4 }).pinCount 4 ∧ Instr.takeOverlayBegin ≠ .powerOnReset := by decide +kernel

/-- A taken PAIR LOAD changes its set. -/
theorem witness_TablesChangeOnlyUnderTheFence :
    let s := queue bound (.pairLoad 1 [⟨69, 1, 201⟩])
    (after s .takePairLoad).tables.get 1 ≠ s.tables.get 1 ∧ Instr.takePairLoad ≠ .powerOnReset := by decide +kernel

theorem witness_RecordsReachOnlyTheirPortsStreams :
    (2, Instr.cancel .a) ∈ recordCommands .a ∧ (Port.b ≠ .a) ∧ (bound.stream 5).binding = some .b := by decide +kernel

end Tests
end

section
/-! SUPPORT. The inversion of the Record Gate: everything a record's end event can do, what a header that passes says of its stream,
and the row each record command belongs to. -/

namespace Sys2Proof.Machine

/-! ### The end event, inverted (R4, R170) -/

/-- The record in the port may be the row's and passes steps 1 to 5 of R4 with header `h`. -/
structure State.Passes (s : State) (p : Port) (row : Row) (h : Header) : Prop where
  fits : row.fits (s.port p).bytes = true
  header : checkHeader s p (s.port p).bytes (s.port p).ranLong = .ok h

/-- The rule of the row takes the record with header `h`: its operands are read as `a`, and the rule leaves the state `u`. -/
structure TakesRecord {α : Type} (s : State) (p : Port) (operands : Header → Except Reason α) (rule : Header → α → State → Ruling)
    (h : Header) (a : α) (u : State) (overflow : Bool) (frames : List Byte) : Prop where
  read : operands h = .ok a
  ruled : rule h a (s.lowerFrame p) = .taken u overflow frames

/-- All an end event can do: nothing; FRAME falls; the header is refused; or the header passes, and the record is refused, HELD or
TAKEN. -/
theorem State.endEvent_cases {α : Type} (s : State) (row : Row) (p : Port) (operands : Header → Except Reason α)
    (rule : Header → α → State → Ruling) :
    s.endEvent row p operands rule = s ∨ s.endEvent row p operands rule = s.lowerFrame p ∨
    (∃ r, checkHeader s p (s.port p).bytes (s.port p).ranLong = .error r ∧
      s.endEvent row p operands rule = (s.lowerFrame p).refuse p (s.port p).bytes r) ∨
    ∃ h, s.Passes p row h ∧
      ((∃ r, s.endEvent row p operands rule = (s.lowerFrame p).refuse p (s.port p).bytes r) ∨
        s.endEvent row p operands rule = (s.lowerFrame p).answer p .held false [] ∨
        ∃ a u overflow frames, TakesRecord s p operands rule h a u overflow frames ∧
          s.endEvent row p operands rule = (u.countTaken h.stream).answer p .taken overflow frames) := by
  unfold State.endEvent
  dsimp only
  split
  case isFalse => exact .inr (.inl rfl)
  case isTrue =>
    split
    case isFalse => exact .inl rfl
    case isTrue hf =>
      simp only [State.gate, State.lowerFrame_bytes, State.lowerFrame_ranLong, checkHeader_lowerFrame]
      cases hh : checkHeader s p (s.port p).bytes (s.port p).ranLong with
      | error r => exact .inr (.inr (.inl ⟨r, rfl, rfl⟩))
      | ok h =>
        refine .inr (.inr (.inr ⟨h, ⟨hf, hh⟩, ?_⟩))
        dsimp only
        cases ho : operands h with
        | error r => exact .inl ⟨r, rfl⟩
        | ok a =>
          dsimp only
          cases hr : rule h a (s.lowerFrame p) with
          | taken u v f => exact .inr (.inr ⟨a, u, v, f, ⟨ho, hr⟩, rfl⟩)
          | held => exact .inr (.inl rfl)
          | refused r => exact .inl ⟨r, rfl⟩

/-! ### A header that passes (R5, R6) -/

/-- A header that passes is that of a whole record: the stream, the class and the data are what its bytes name, and step 3 of R4
found the stream bound to the port, or unbound with a STREAM OPEN. -/
theorem checkHeader_ok {s : State} {p : Port} {bytes : List Byte} {long : Bool} {h : Header}
    (hh : checkHeader s p bytes long = .ok h) :
    ∃ b0 b1 b2 b3, bytes = b0 :: b1 :: b2 :: b3 :: h.data ∧ streamOf (loNibble b0) = some h.stream ∧
      classOf b0 = some h.cls ∧ bindingRefusal s p h.stream h.cls h.data = none := by
  unfold checkHeader at hh
  split at hh
  case h_2 => cases hh
  case h_1 b0 b1 b2 b3 data =>
    split at hh; · cases hh
    split at hh; · cases hh
    split at hh
    case h_2 => cases hh
    case h_1 i c hi hc =>
      split at hh; · cases hh
      split at hh; · cases hh
      next hb =>
      split at hh; · cases hh
      split at hh
      · cases hh
        exact ⟨b0, b1, b2, b3, rfl, hi, hc, hb⟩
      · cases hh

/-- The stream of a header that passes is bound to the port or to none (R6). -/
theorem State.Passes.binding {s : State} {p : Port} {row : Row} {h : Header} (hp : s.Passes p row h) :
    (s.stream h.stream).binding = some p ∨ (s.stream h.stream).binding = none := by
  obtain ⟨b0, b1, b2, b3, -, -, -, hb⟩ := checkHeader_ok hp.header
  unfold bindingRefusal at hb
  split at hb
  next q hq =>
    split at hb
    · next e => exact .inl (e ▸ hq)
    · cases hb
  next hq => exact .inr hq

/-- A refusal of a record whose header passes is counted on no stream but the header's (R10). -/
theorem State.Passes.named {s : State} {p : Port} {row : Row} {h : Header} (hp : s.Passes p row h) :
    namedStream (s.port p).bytes = some h.stream := by
  obtain ⟨b0, b1, b2, b3, hbytes, hi, -, -⟩ := checkHeader_ok hp.header
  rw [hbytes]
  exact hi

/-- A record of any row but STREAM OPEN that passes is on a stream bound to its port: the bytes of a STREAM OPEN fit no other row. -/
theorem State.Passes.bound {s : State} {p : Port} {row : Row} {h : Header} (hp : s.Passes p row h)
    (hrow : row ≠ .control 0x02#8) : (s.stream h.stream).binding = some p := by
  obtain ⟨b0, b1, b2, b3, hbytes, -, hc, hb⟩ := checkHeader_ok hp.header
  have hfit := hp.fits
  rw [hbytes] at hfit
  refine hp.binding.resolve_right fun hnone => ?_
  simp only [bindingRefusal, hnone, ite_eq_left_iff, reduceCtorEq, imp_false, Bool.not_eq_true, Bool.not_eq_false] at hb
  simp only [isStreamOpen, Bool.and_eq_true, decide_eq_true_eq] at hb
  obtain ⟨hcls, hdata⟩ := hb
  simp only [Row.fits, hc, hcls, List.drop_succ_cons, List.drop_zero] at hfit
  obtain ⟨rest, hrest⟩ : ∃ rest, h.data = 0x02#8 :: rest := List.head?_eq_some_iff.mp hdata
  rw [hrest] at hfit
  cases row with
  | control code => exact hrow (by simpa [Row.fitsControl, knownCode, eq_comm] using hfit)
  | sense sel => cases rest <;> simp [Row.fitsControl, knownCode] at hfit
  | print => simp [Row.fitsControl] at hfit
  | mark => simp [Row.fitsControl] at hfit
  | close => simp [Row.fitsControl] at hfit

/-! ### Which row a record command is the event of -/

/-- The row whose end event a record command is (`print` for a command that ends no record). -/
def rowOf : Instr → Row
  | .mark _ => .mark
  | .close _ => .close
  | .senseDevice _ => .sense 0x01#8
  | .senseStream _ => .sense 0x02#8
  | .senseMark _ => .sense 0x03#8
  | .streamOpen _ => .control 0x02#8
  | .streamRelease _ => .control 0x03#8
  | .cancel _ => .control 0x04#8
  | .formLoad _ => .control 0x05#8
  | .formSelect _ => .control 0x06#8
  | .portSet _ => .control 0x07#8
  | .stop _ => .control 0x08#8
  | .resume _ => .control 0x09#8
  | .engineSet _ => .control 0x0A#8
  | .xlateLoad _ => .control 0x21#8
  | .pairLoad _ => .control 0x22#8
  | .pairClear _ => .control 0x23#8
  | .geometryLoad _ => .control 0x24#8
  | .streamSet _ => .control 0x25#8
  | .overlayBegin _ => .control 0x26#8
  | .overlayEntries _ => .control 0x27#8
  | .overlayEnd _ => .control 0x28#8
  | _ => .print

/-- A record command is the end event of its row, with operands and a rule of its own. -/
theorem exec_recordCommand {p : Port} {cls : Nat} {c : Instr} (hc : (cls, c) ∈ recordCommands p) :
    ∃ (α : Type) (operands : Header → Except Reason α) (rule : Header → α → State → Ruling),
      ∀ s, exec c s = .next (s.endEvent (rowOf c) p operands rule) := by
  revert cls c
  suffices ∀ e ∈ recordCommands p, ∃ (α : Type) (operands : Header → Except Reason α) (rule : Header → α → State → Ruling),
      ∀ s, exec e.2 s = .next (s.endEvent (rowOf e.2) p operands rule) from fun {cls c} hc => this (cls, c) hc
  unfold recordCommands
  repeat refine List.forall_mem_cons.2 ⟨⟨_, _, _, fun _ => rfl⟩, ?_⟩
  exact List.forall_mem_nil _

end Sys2Proof.Machine
end

section
/-! SUPPORT. The spool under every operation (R12, R16, R20): a queue gains a record only where the gate takes a queued record. -/

namespace Sys2Proof.Machine

/-! ### The spool counts, stream by stream -/

/-- The pool's use is the sum of the queue counts (R20). -/
theorem State.spoolUsed_eq (s : State) :
    s.spoolUsed = ((List.finRange 8).map fun j => (s.stream j).queue.length).sum := by
  have h : s.streams.items = (List.finRange 8).map s.stream := by
    apply List.ext_getElem
    · simp [s.streams.size]
    · intro n h1 h2
      simp [State.stream, Bank.get]
  simp [State.spoolUsed, h, Function.comp_def]

/-- One stream's part of the spool law (R12, R16, R20). -/
structure Stream.QueueLaw (t : Stream) : Prop where
  queue : t.queue.length ≤ t.quota
  low : 16 ≤ t.quota
  high : t.quota ≤ 2048
  unbound : t.binding = none → t.queue = []

theorem State.spoolLaw_iff (s : State) : s.SpoolLaw ↔ s.spoolUsed ≤ 2048 ∧ ∀ i, (s.stream i).QueueLaw :=
  and_congr_right fun _ => forall_congr' fun _ =>
    ⟨fun ⟨h1, h2, h3, h4⟩ => ⟨h1, h2, h3, h4⟩, fun ⟨h1, h2, h3, h4⟩ => ⟨h1, h2, h3, h4⟩⟩

/-- An update of one stream changes the pool's use by what it changes that stream's queue count. -/
theorem State.spoolUsed_updStream (s : State) (i : StreamNo) (f : Stream → Stream) :
    (s.updStream i f).spoolUsed + (s.stream i).queue.length = s.spoolUsed + (f (s.stream i)).queue.length := by
  have hsum (u : State) : u.spoolUsed = (u.stream i).queue.length + ∑ j ∈ Finset.univ.erase i, (u.stream j).queue.length := by
    rw [Finset.add_sum_erase _ (fun j => (u.stream j).queue.length) (Finset.mem_univ i), State.spoolUsed_eq,
      ← List.ofFn_eq_map, List.sum_ofFn]
  have hrest : ∑ j ∈ Finset.univ.erase i, ((s.updStream i f).stream j).queue.length
      = ∑ j ∈ Finset.univ.erase i, (s.stream j).queue.length :=
    Finset.sum_congr rfl fun j hj => by rw [State.stream_updStream, if_neg (Finset.ne_of_mem_erase hj).symm]
  rw [hsum, hsum, hrest, State.stream_updStream_self]
  omega

/-! ### Operations that put nothing in the spool -/

/-- A stream keeps its quota, its queue does not grow, and it is unbound only with an empty queue or where it was unbound before. -/
structure Stream.Within (t u : Stream) : Prop where
  quota : t.quota = u.quota
  queue : t.queue.length ≤ u.queue.length
  unbound : t.binding = none → t.queue = [] ∨ u.binding = none

theorem Stream.Within.rfl {t : Stream} : t.Within t := ⟨.refl _, le_rfl, .inr⟩

theorem Stream.Within.trans {t u v : Stream} (h : t.Within u) (k : u.Within v) : t.Within v where
  quota := h.quota.trans k.quota
  queue := h.queue.trans k.queue
  unbound ht := (h.unbound ht).elim .inl fun hu => (k.unbound hu).imp_left fun hq =>
    List.length_eq_zero_iff.1 (Nat.le_zero.1 (by simpa [hq] using h.queue))

/-- No stream holds more of the spool in `t` than in `s`. -/
def State.Within (t s : State) : Prop := ∀ i, (t.stream i).Within (s.stream i)

theorem State.Within.rfl {s : State} : s.Within s := fun _ => .rfl

theorem State.Within.trans {t u v : State} (h : t.Within u) (k : u.Within v) : t.Within v := fun i => (h i).trans (k i)

/-- What leaves the streams as they are leaves the spool. -/
theorem State.Within.of_streams {t s : State} (h : t.streams = s.streams) : t.Within s := fun i => by
  rw [State.stream, h]
  exact .rfl

/-- A state that holds no more of the spool keeps the spool law (R20). -/
theorem State.Within.spoolLaw {t s : State} (h : t.Within s) (hs : s.SpoolLaw) : t.SpoolLaw := by
  rw [State.spoolLaw_iff] at hs ⊢
  obtain ⟨hused, hq⟩ := hs
  refine ⟨le_trans ?_ hused, fun i => ?_⟩
  · rw [State.spoolUsed_eq, State.spoolUsed_eq]
    exact List.sum_le_sum fun j _ => (h j).queue
  · have hi := h i
    have hqi := hq i
    refine ⟨hi.quota ▸ hi.queue.trans hqi.queue, hi.quota ▸ hqi.low, hi.quota ▸ hqi.high, fun hb => ?_⟩
    refine (hi.unbound hb).elim id fun hu => List.length_eq_zero_iff.1 (Nat.le_zero.1 ?_)
    simpa [hqi.unbound hu] using hi.queue

theorem State.within_updStream {s : State} {i : StreamNo} {f : Stream → Stream} (h : (f (s.stream i)).Within (s.stream i)) :
    (s.updStream i f).Within s := fun j => by
  rw [State.stream_updStream]
  split
  · next e => subst e; exact h
  · exact .rfl

theorem State.within_updPort (s : State) (p : Port) (f : PortState → PortState) : (s.updPort p f).Within s := .of_streams rfl

theorem State.within_setWait (s : State) (i : StreamNo) (w : Wait) : (s.setWait i w).Within s :=
  State.within_updStream ⟨rfl, le_rfl, .inr⟩

/-! ### Conditions, run state and ports -/

theorem State.within_countCond (s : State) (i : StreamNo) (k : Cond) : (s.countCond i k).Within s := fun j => by
  rw [State.stream_countCond]
  split
  · exact ⟨rfl, le_rfl, .inr⟩
  · exact .rfl

theorem State.within_countIf (s : State) (b : Bool) (i : StreamNo) (k : Cond) : (s.countIf b i k).Within s := by
  cases b with
  | false => exact .rfl
  | true => exact s.within_countCond i k

theorem State.within_deviceCond (s : State) (d : DevCond) : (s.deviceCond d).Within s :=
  .of_streams (by rw [State.deviceCond_eq])

theorem State.within_enterStopped (s : State) : s.enterStopped.Within s := .of_streams (by rw [State.enterStopped_eq])

theorem State.within_testStopped (s : State) : s.testStopped.Within s := .of_streams (by rw [State.testStopped_frame])

theorem State.within_stopRequest (s : State) (c : Cause) : (s.stopRequest c).Within s :=
  .of_streams (by rw [State.stopRequest_frame])

theorem State.within_engineCause (s : State) (c : Cause) : (s.engineCause c).Within s :=
  .of_streams (by rw [State.engineCause_frame])

theorem State.within_start (s : State) : s.start.Within s := .of_streams (by rw [State.start_frame])

/-! ### The Page Store -/

theorem State.within_endStoreWaits (s : State) : s.endStoreWaits.Within s := fun i => by
  rw [State.stream_endStoreWaits]
  split
  · exact ⟨rfl, le_rfl, .inr⟩
  · exact .rfl

/-- What the ending of the PIN waits leaves of a stream (R128). -/
theorem State.stream_endPinWaits (s : State) (i : StreamNo) :
    s.endPinWaits.stream i =
      match (s.stream i).wait with
      | .pin k => if s.pinCount k = 0 then { s.stream i with wait := .none } else s.stream i
      | _ => s.stream i :=
  Bank.get_map s.streams _ i

theorem State.within_endPinWaits (s : State) : s.endPinWaits.Within s := fun i => by
  rw [State.stream_endPinWaits]
  split
  · split
    · exact ⟨rfl, le_rfl, .inr⟩
    · exact .rfl
  · exact .rfl

theorem State.within_discardPages (s : State) (gone : Page → Bool) : (s.discardPages gone).Within s := by
  unfold State.discardPages
  dsimp only
  split
  · exact .rfl
  · exact (State.within_endStoreWaits _).trans ((State.within_endPinWaits _).trans (.of_streams rfl))

theorem State.within_closePage (s : State) (i : StreamNo) : (s.closePage i).Within s := by
  unfold State.closePage
  split
  · exact .rfl
  · next p _ =>
    have hclosed : ((s.updPage p.ref fun q => { q with state := .closed, reservation := 0 }).updStream i
        fun t => { t with pageAge := .stopped }).Within s :=
      (State.within_updStream ⟨rfl, le_rfl, .inr⟩).trans (.of_streams rfl)
    dsimp only
    split
    · exact (State.within_endStoreWaits _).trans hclosed
    · exact hclosed

theorem State.within_makePage (s : State) (i : StreamNo) (ln : ComposedLine) (n : Word16) (b : Bool) :
    (s.makePage i ln n b).Within s :=
  State.Within.trans (State.within_updStream ⟨rfl, le_rfl, .inr⟩) (.of_streams rfl)

theorem State.within_makeBlanks (s : State) (i : StreamNo) (ln : ComposedLine) (n : Nat) : (s.makeBlanks i ln n).Within s := by
  induction n generalizing s with
  | zero => exact .rfl
  | succ n ih => exact (ih _).trans (s.within_makePage i ln _ true)

theorem State.within_appendLine (s : State) (i : StreamNo) (ln : ComposedLine) : (s.appendLine i ln).Within s :=
  .of_streams (by rw [State.appendLine_frame])

theorem State.within_openWith (s : State) (i : StreamNo) (ln : ComposedLine) : (s.openWith i ln).Within s :=
  (State.within_appendLine _ i ln).trans <| State.Within.trans (State.within_updStream ⟨rfl, le_rfl, .inr⟩) <|
    (State.within_makePage _ i ln _ false).trans <| (State.within_makeBlanks _ i ln _).trans <|
      State.within_updStream ⟨rfl, le_rfl, .inr⟩

theorem State.within_receiveLine (s : State) (i : StreamNo) (ln : ComposedLine) : (s.receiveLine i ln).Within s := by
  refine State.Within.trans (State.within_updStream ⟨rfl, le_rfl, .inr⟩) ?_
  split
  · exact s.within_openWith i ln
  · split
    · exact s.within_appendLine i ln
    · exact (State.within_openWith _ i ln).trans (s.within_closePage i)

theorem State.within_deliverMark (s : State) (i : StreamNo) (id : Word16) (n : Nat) (k : Stacker) :
    (s.deliverMark i id n k).Within s := by
  unfold State.deliverMark
  split
  · exact .rfl
  · exact (State.within_updPort _ _ _).trans (State.within_updStream ⟨rfl, le_rfl, .inr⟩)

theorem State.within_deliverMarks (s : State) (i : StreamNo) (n : Nat) (k : Stacker) (ids : List Word16) :
    (s.deliverMarks i n k ids).Within s := by
  induction ids generalizing s with
  | nil => exact .rfl
  | cons id ids ih => exact (ih _).trans (s.within_deliverMark i id n k)

theorem State.within_attachMark (s : State) (i : StreamNo) (id : Word16) : (s.attachMark i id).Within s := by
  unfold State.attachMark
  split
  · split
    · exact .of_streams rfl
    · exact s.within_countCond i _
  · exact s.within_deliverMark i id 0 _

theorem State.within_completeSync (s : State) (i : StreamNo) : (s.completeSync i).Within s :=
  (State.within_setWait _ i _).trans <| (State.within_countCond _ i _).trans <| State.within_updStream ⟨rfl, le_rfl, .inr⟩

theorem State.within_syncPages (s : State) (i : StreamNo) : (s.syncPages i).Within s := by
  unfold State.syncPages
  split
  · exact (State.within_setWait _ i _).trans <| State.Within.trans (.of_streams rfl) (s.within_closePage i)
  · split
    · exact (State.within_setWait _ i _).trans (.of_streams rfl)
    · exact s.within_completeSync i

theorem State.within_freePage (s : State) (r : PageRef) : (s.freePage r).Within s :=
  (State.within_endStoreWaits _).trans <| (State.within_endPinWaits _).trans (.of_streams rfl)

theorem State.within_stackPage (s : State) (p : Page) : (s.stackPage p).Within s := by
  have hcounted : ((s.deliverMarks p.stream p.number p.stacker p.marks).updStream p.stream
      fun t => { t with pagesStacked := t.pagesStacked + 1 }).Within s :=
    (State.within_updStream ⟨rfl, le_rfl, .inr⟩).trans (s.within_deliverMarks _ _ _ _)
  refine (State.within_freePage _ _).trans ?_
  split
  · exact (State.within_completeSync _ _).trans hcounted
  · exact hcounted

theorem State.within_confirmCopy (s : State) (r : PageRef) : (s.confirmCopy r).Within s := by
  unfold State.confirmCopy
  split
  · exact .rfl
  · dsimp only
    split
    · exact (State.within_stackPage _ _).trans (.of_streams rfl)
    · exact .of_streams rfl

theorem State.within_cancelPages (s : State) (i : StreamNo) : (s.cancelPages i).Within s :=
  State.Within.trans (.of_streams rfl) (s.within_discardPages _)

/-! ### Overlay loads -/

/-- The abandonment of a load writes one slot (R134). -/
theorem State.abandonLoad_frame (s : State) (i : StreamNo) :
    s.abandonLoad i = { s with overlays := (s.abandonLoad i).overlays } := by
  unfold State.abandonLoad
  cases s.openLoad i <;> rfl

theorem State.within_abandonLoad (s : State) (i : StreamNo) : (s.abandonLoad i).Within s :=
  .of_streams (by rw [State.abandonLoad_frame])

theorem State.within_beginTest (s : State) (i : StreamNo) (k : Fin 8) : (s.beginTest i k).1.Within s := by
  have hone : ((s.abandonLoad i).countIf (s.openLoad i).isSome i .overlaySequence).Within s :=
    (State.within_countIf _ _ _ _).trans (s.within_abandonLoad i)
  unfold State.beginTest
  dsimp only
  rw [apply_ite Prod.fst, ite_self]
  split
  · split
    · exact (State.within_closePage _ i).trans hone
    · exact hone
  · exact hone

theorem State.within_beginLoad (s : State) (i : StreamNo) (k : Fin 8) (n : Nat) : (s.beginLoad i k n).Within s := by
  unfold State.beginLoad
  refine State.Within.trans (.of_streams rfl) ?_
  split
  · split
    · exact .rfl
    · exact s.within_countCond _ _
  · exact .rfl

theorem State.within_addEntries (s : State) (i : StreamNo) (entries : List OverlayEntry) : (s.addEntries i entries).Within s := by
  unfold State.addEntries
  split
  · exact s.within_countCond i _
  · split
    · exact s.within_countCond i _
    · exact (State.within_countIf _ _ _ _).trans (.of_streams rfl)

theorem State.within_readySlot (s : State) (i : StreamNo) (k : Fin 8) : (s.readySlot i k).Within s :=
  (State.within_countIf _ _ _ _).trans (.of_streams rfl)

theorem State.within_endLoad (s : State) (i : StreamNo) : (s.endLoad i).Within s := by
  unfold State.endLoad
  split
  · exact s.within_countCond i _
  · exact s.within_readySlot i _

theorem State.within_completeLoad (s : State) (i : StreamNo) : (s.completeLoad i).Within s := by
  unfold State.completeLoad
  split
  · exact .rfl
  · exact s.within_readySlot i _

/-! ### The composer -/

/-- What the re-examination of a fence leaves of a stream (R82). -/
theorem State.stream_reexamineFence (s : State) (k : Fin 2) (i : StreamNo) :
    (s.reexamineFence k).stream i =
      if (s.stream i).wait = .fence k ∧ s.fenceClear i k then { s.stream i with wait := .none } else s.stream i :=
  Bank.get_mapIdx s.streams _ i

theorem State.within_reexamineFence (s : State) (k : Fin 2) : (s.reexamineFence k).Within s := fun i => by
  rw [State.stream_reexamineFence]
  split
  · exact ⟨rfl, le_rfl, .inr⟩
  · exact .rfl

theorem State.within_fenceTest (s : State) (i : StreamNo) (k : Fin 2) : (s.fenceTest i k).1.Within s := by
  unfold State.fenceTest
  split
  · exact .rfl
  · exact State.within_updStream ⟨rfl, le_rfl, .inr⟩

theorem State.within_loadTable (s : State) (i : StreamNo) (k : Fin 2) (f : TableSet → TableSet) : (s.loadTable i k f).Within s :=
  State.Within.trans (State.within_updStream ⟨rfl, le_rfl, .inr⟩) (.of_streams rfl)

theorem State.within_emit (s : State) (i : StreamNo) : (s.emit i).Within s := by
  unfold State.emit
  split
  · exact .rfl
  · refine (State.within_reexamineFence _ _).trans <| State.Within.trans (State.within_updStream ⟨rfl, le_rfl, .inr⟩) ?_
    split
    · exact State.Within.trans (State.within_updStream ⟨rfl, le_rfl, .inr⟩) (s.within_receiveLine i _)
    · exact .rfl

theorem State.within_actSync (s : State) (i : StreamNo) (b : Bool) : (s.actSync i b).Within s := by
  unfold State.actSync
  split
  · exact (State.within_syncPages _ i).trans (s.within_emit i)
  · exact .rfl

theorem State.within_actHalt (s : State) (b : Bool) : (s.actHalt b).Within s := by
  unfold State.actHalt
  split
  · exact s.within_stopRequest _
  · exact .rfl

theorem State.within_endGrant (s : State) : s.endGrant.Within s := (State.within_testStopped _).trans (.of_streams rfl)

theorem State.within_endWaiting (s : State) (i : StreamNo) (w : Wait) : (s.endWaiting i w).Within s :=
  (State.within_endGrant _).trans (s.within_setWait i w)

/-- The record that leaves the head of its queue frees its slot (R22): an unbound stream gains nothing by it. -/
theorem State.within_dropHead (s : State) (i : StreamNo) : (s.dropHead i).Within s :=
  State.within_updStream ⟨rfl, by simp, .inr⟩

theorem State.within_finishTaking (s : State) (i : StreamNo) (r : Resolved) : (s.finishTaking i r).Within s :=
  (State.within_testStopped _).trans <| (State.within_actHalt _ _).trans <| State.Within.trans (.of_streams rfl) <|
    (State.within_actSync _ i _).trans (s.within_dropHead i)

/-- The steps a kind of record puts into R63 put nothing in the spool. -/
structure Taking.Within (k : Taking) : Prop where
  before : ∀ u, (k.before u).Within u
  tests : ∀ u, (k.tests u).1.Within u
  act : ∀ u, (k.act u).Within u

theorem State.within_carryOut (s : State) (i : StreamNo) (r : Resolved) {k : Taking} (hk : k.Within) :
    (s.carryOut i r k).Within s := by
  have hgranted : (s.beginGrant i).Within s := .of_streams rfl
  have htested := (hk.tests _).trans ((hk.before _).trans hgranted)
  unfold State.carryOut
  dsimp only
  split
  · split
    · exact (State.within_endWaiting _ i _).trans htested
    · exact (State.within_finishTaking _ i r).trans ((hk.act _).trans htested)
  · exact (State.within_endWaiting _ i _).trans hgranted

/-- A composer command of any kind whose steps put nothing in the spool. -/
theorem State.within_take {α : Type} (s : State) (pick : Body → Option α) {kind : State → StreamNo → Resolved → α → Taking}
    (hk : ∀ i r a, (kind s i r a).Within) : (s.take pick kind).Within s := by
  unfold State.take
  split
  · split
    · exact .rfl
    · exact s.within_carryOut _ _ (hk _ _ _)
  · split
    · split
      · exact s.within_endGrant
      · exact .rfl
    · exact .rfl

theorem controlTaking_within (s : State) (i : StreamNo) {tests : State → State × Option Wait} {act : State → State}
    (ht : ∀ u, (tests u).1.Within u) (ha : ∀ u, (act u).Within u) : (controlTaking s i tests act).Within :=
  ⟨fun u => u.within_emit i, ht, ha⟩

theorem printTaking_within (s : State) (i : StreamNo) (r : Resolved) (data : List Byte) : (printTaking s i r data).Within where
  before _ := .rfl
  tests _ := .rfl
  act u := by
    have hcounted : ∀ b v c, ((((u.completeLoad i).updStream i fun t => { t with buffer := b }).countIf v i .voidCode).countIf c i
        .collision).Within u := fun b v c =>
      (State.within_countIf _ _ _ _).trans <| (State.within_countIf _ _ _ _).trans <|
        State.Within.trans (State.within_updStream ⟨rfl, le_rfl, .inr⟩) (u.within_completeLoad i)
    dsimp only [printTaking]
    split
    · exact (State.within_emit _ i).trans (hcounted _ _ _)
    · exact hcounted _ _ _

theorem markTaking_within (s : State) (i : StreamNo) (r : Resolved) (id : Word16) : (markTaking s i r id).Within where
  before _ := .rfl
  tests _ := .rfl
  act u := (State.within_attachMark _ i id).trans (u.within_completeLoad i)

theorem closeTaking_within (s : State) (i : StreamNo) : (closeTaking s i).Within where
  before u := u.within_emit i
  tests _ := .rfl
  act u := (State.within_closePage _ i).trans (u.within_completeLoad i)

theorem State.within_applyPairs (s : State) (i : StreamNo) (k : Fin 2) (entries : List PairEntry) :
    (s.applyPairs i k entries).Within s :=
  (State.within_countIf _ _ _ _).trans (s.within_loadTable i k _)

/-! ### Cancellations and resets -/

theorem State.discardTaking_frame (s : State) (i : StreamNo) :
    s.discardTaking i = { s with taking := (s.discardTaking i).taking } := by
  unfold State.discardTaking
  split
  · cases (s.stream i).queue <;> rfl
  · rfl

theorem State.within_cancelStream (s : State) (i : StreamNo) : (s.cancelStream i).Within s := by
  have hcleared : ((s.discardTaking i).updStream i fun u =>
      { u with queue := [], buffer := none, pageAge := .stopped, fenceClaim := none, wait := .none, carriage := .initial,
               lastLined := none }).Within s :=
    (State.within_updStream ⟨rfl, by simp, fun _ => .inl rfl⟩).trans (.of_streams (by rw [State.discardTaking_frame]))
  have hdiscarded := (State.within_cancelPages _ i).trans ((State.within_abandonLoad _ i).trans hcleared)
  unfold State.cancelStream
  dsimp only
  split
  · exact (State.within_reexamineFence _ _).trans hdiscarded
  · exact hdiscarded

/-- A cancelled stream's queue is empty (R19). -/
theorem State.queue_cancelStream (s : State) (i : StreamNo) : ((s.cancelStream i).stream i).queue = [] := by
  have hcancelPages : ∀ u : State, (u.stream i).queue = [] → ((u.cancelPages i).stream i).queue = [] := fun u h =>
    List.length_eq_zero_iff.1 (Nat.le_zero.1 (by simpa [h] using (u.within_cancelPages i i).queue))
  have hdiscarded := hcancelPages (((s.discardTaking i).updStream i fun u =>
      { u with queue := [], buffer := none, pageAge := .stopped, fenceClaim := none, wait := .none, carriage := .initial,
               lastLined := none }).abandonLoad i) (by rw [State.abandonLoad_frame]; exact congrArg Stream.queue (State.stream_updStream_self _ _ _))
  unfold State.cancelStream
  dsimp only
  split
  · rw [State.stream_reexamineFence]
    split
    · exact hdiscarded
    · exact hdiscarded
  · exact hdiscarded

/-- A stream bound to the port is cancelled before it is unbound (R24), so that its queue is empty. -/
theorem State.within_unbindFrom (s : State) (p : Port) (i : StreamNo) : (s.unbindFrom p i).Within s := by
  unfold State.unbindFrom
  split
  · exact (State.within_updStream ⟨rfl, le_rfl, fun _ => .inl (s.queue_cancelStream i)⟩).trans (s.within_cancelStream i)
  · exact .rfl

/-- A fold of steps each within the spool is within it. -/
theorem State.within_foldl {f : State → StreamNo → State} (hf : ∀ u i, (f u i).Within u) (l : List StreamNo) (s : State) :
    (l.foldl f s).Within s := by
  induction l generalizing s with
  | nil => exact .rfl
  | cons i l ih => exact (ih _).trans (hf s i)

theorem State.within_resetPort (s : State) (p : Port) : (s.resetPort p).Within s := by
  unfold State.resetPort
  split
  · exact .rfl
  · exact (State.within_foldl (fun u i => u.within_unbindFrom p i) _ _).trans (s.within_updPort p _)

theorem State.within_purge (s : State) : s.purge.Within s := by
  have hcancel : ∀ (u : State) i, (u.cancelBound i).Within u := fun u i => by
    unfold State.cancelBound
    split
    · exact .rfl
    · exact u.within_cancelStream i
  have hemptied : ((allStreams.foldl State.cancelBound s).discardPages fun _ => true).Within s :=
    (State.within_discardPages _ _).trans (State.within_foldl hcancel _ s)
  have hall : s.purgeAll.Within s := by
    unfold State.purgeAll
    generalize (allStreams.foldl State.cancelBound s).discardPages (fun _ => true) = emptied at hemptied ⊢
    exact (State.within_enterStopped _).trans (State.Within.trans (.of_streams rfl) hemptied)
  unfold State.purge
  split
  · exact hall
  · exact hall
  · exact .rfl
  · exact .rfl

/-! ### Imager, engine and panel -/

theorem State.within_renderingDone (s : State) : s.renderingDone.Within s := by
  unfold State.renderingDone
  split
  · exact .rfl
  · split
    · exact .rfl
    · refine State.Within.trans (.of_streams rfl) ((State.within_countIf _ _ _ _).trans ?_)
      split
      · exact .of_streams rfl
      · exact .rfl

theorem State.within_issueSheet (s : State) : s.issueSheet.Within s := by
  unfold State.issueSheet
  split
  · split
    · exact .of_streams rfl
    · exact .rfl
  · exact .rfl

theorem State.within_sendDone (s : State) : s.sendDone.Within s := by
  unfold State.sendDone
  split
  · exact .rfl
  · split
    · exact .rfl
    · dsimp only
      split
      · exact .of_streams rfl
      · exact .of_streams rfl

theorem State.within_jamEvent (s : State) (d : DevCond) (c : Cause) : (s.jamEvent d c).Within s :=
  (State.within_engineCause _ c).trans ((State.within_deviceCond _ d).trans (.of_streams rfl))

theorem State.within_confirmOldest (s : State) : s.confirmOldest.Within s := by
  refine (State.within_testStopped _).trans (State.Within.trans (.of_streams rfl) ?_)
  split
  · exact (State.within_confirmCopy _ _).trans (.of_streams rfl)
  · exact .of_streams rfl

theorem State.within_stackedReport (s : State) (tag : BitVec 4) : (s.stackedReport tag).Within s := by
  unfold State.stackedReport
  split
  · split
    · exact s.within_confirmOldest
    · exact s.within_jamEvent _ _
  · exact s.within_deviceCond _

theorem State.within_numberedReport (s : State) (n : Nat) (d : DevCond) (c : Cause) : (s.numberedReport n d c).Within s := by
  unfold State.numberedReport
  split
  · exact (State.within_engineCause _ c).trans ((State.within_deviceCond _ d).trans (.of_streams rfl))
  · exact .rfl

theorem State.within_readyReport (s : State) : s.readyReport.Within s := by
  unfold State.readyReport
  dsimp only
  split
  · exact .of_streams rfl
  · exact .of_streams rfl

theorem State.within_stackTimerExpires (s : State) : s.stackTimerExpires.Within s := by
  unfold State.stackTimerExpires
  split
  · exact s.within_jamEvent _ _
  · exact .rfl

theorem State.within_panelSample (s : State) (r : KeySample) (c : PanelCommand) {effect : State → State}
    (h : ∀ u, (effect u).Within u) : (s.panelSample r c effect).Within s := by
  unfold State.panelSample
  split
  · exact (h _).trans (.of_streams rfl)
  · exact .rfl

theorem State.within_makeGrant (s : State) : s.makeGrant.Within s := by
  unfold State.makeGrant
  split
  · exact .of_streams rfl
  · exact .rfl

end Sys2Proof.Machine
end

section
/-! The spool law (R20) is kept by every step: the gate's records first, which alone put a record in the spool. -/

namespace Sys2Proof.Machine

/-! ### Records at the gate -/

/-- An answer, and the records-taken counter before it, leave the spool. -/
theorem State.within_answer (s : State) (p : Port) (a : Answer) (o : Bool) (f : List Byte) : (s.answer p a o f).Within s :=
  s.within_updPort p _

theorem State.within_countTaken (s : State) (i : StreamNo) : (s.countTaken i).Within s :=
  State.within_updStream ⟨rfl, le_rfl, .inr⟩

theorem State.within_refuse (s : State) (p : Port) (bytes : List Byte) (r : Reason) : (s.refuse p bytes r).Within s := by
  refine (State.within_answer _ p _ _ _).trans ?_
  unfold State.countRefusal
  split
  · exact .rfl
  · split
    · exact s.within_countCond _ _
    · exact .rfl

/-- An end event keeps the spool law where the rule of its row does, for the records that pass (R4). -/
theorem State.endEvent_spoolLaw {α : Type} {s : State} (hs : s.SpoolLaw) (row : Row) (p : Port)
    (operands : Header → Except Reason α) (rule : Header → α → State → Ruling)
    (hrule : ∀ h a u o f, s.Passes p row h → TakesRecord s p operands rule h a u o f → u.SpoolLaw) :
    (s.endEvent row p operands rule).SpoolLaw := by
  have hlow : (s.lowerFrame p).Within s := s.within_updPort p _
  have hrefuse : ∀ r, ((s.lowerFrame p).refuse p (s.port p).bytes r).SpoolLaw := fun r =>
    ((State.within_refuse _ p _ r).trans hlow).spoolLaw hs
  rcases s.endEvent_cases row p operands rule with e | e | ⟨r, -, e⟩ | ⟨h, hp, ⟨r, e⟩ | e | ⟨a, u, o, f, ht, e⟩⟩
  · rwa [e]
  · exact e ▸ hlow.spoolLaw hs
  · exact e ▸ hrefuse r
  · exact e ▸ hrefuse r
  · exact e ▸ ((State.within_answer _ p _ _ _).trans hlow).spoolLaw hs
  · exact e ▸ ((State.within_answer _ p _ _ _).trans (State.within_countTaken _ _)).spoolLaw (hrule h a u o f hp ht)

/-- A rule that holds the record or takes it with an action that puts nothing in the spool. -/
theorem State.endEvent_spoolLaw_of_within {α : Type} {s : State} (hs : s.SpoolLaw) (row : Row) (p : Port)
    (operands : Header → Except Reason α) (rule : Header → α → State → Ruling)
    (hrule : ∀ h a u v o f, rule h a u = .taken v o f → v.Within u) : (s.endEvent row p operands rule).SpoolLaw :=
  s.endEvent_spoolLaw hs row p operands rule fun h a u o f _ ht =>
    ((hrule h a _ u o f ht.ruled).trans (s.within_updPort p _)).spoolLaw hs

/-- A record not HELD finds a slot in the pool and one under its stream's quota (R21). -/
theorem State.slot_of_not_holdsQueued {s : State} {i : StreamNo} (h : ¬ s.holdsQueued i = true) :
    (s.stream i).queue.length < (s.stream i).quota ∧ s.spoolUsed < 2048 := by
  rw [State.holdsQueued_iff] at h
  omega

/-- A record put at the tail of the queue of a bound stream, where the slot request succeeds, keeps the spool law (R20, R21). -/
theorem State.enqueue_spoolLaw {s : State} (hs : s.SpoolLaw) {i : StreamNo} (r : Resolved) (hb : (s.stream i).binding ≠ none)
    (hfree : ¬ s.holdsQueued i = true) : (s.enqueue i r).SpoolLaw := by
  obtain ⟨hquota, hpool⟩ := State.slot_of_not_holdsQueued hfree
  rw [State.spoolLaw_iff] at hs ⊢
  obtain ⟨hused, hq⟩ := hs
  constructor
  · have := s.spoolUsed_updStream i fun t => { t with queue := t.queue ++ [r] }
    simp only [List.length_append, List.length_singleton] at this
    unfold State.enqueue
    omega
  · intro j
    unfold State.enqueue
    rw [State.stream_updStream]
    split
    · next e =>
      subst e
      exact ⟨by simpa using hquota, (hq i).low, (hq i).high, fun h => absurd h hb⟩
    · exact hq j

/-- A queued record's rule: HELD, or TAKEN with the record at the tail of its queue and then an action within the spool. -/
theorem State.endEvent_spoolLaw_of_queued {α : Type} {s : State} (hs : s.SpoolLaw) (row : Row) (p : Port)
    (operands : Header → Except Reason α) (rule : Header → α → State → Ruling) (hrow : row ≠ .control 0x02#8)
    (hrule : ∀ h a u v o f, rule h a u = .taken v o f →
      ¬ u.holdsQueued h.stream = true ∧ ∃ r, v.Within (u.enqueue h.stream r)) :
    (s.endEvent row p operands rule).SpoolLaw :=
  s.endEvent_spoolLaw hs row p operands rule fun h a u o f hp ht => by
    obtain ⟨hfree, r, hu⟩ := hrule h a _ u o f ht.ruled
    have hb : ((s.lowerFrame p).stream h.stream).binding ≠ none := by
      rw [State.stream_lowerFrame, hp.bound hrow]
      exact Option.some_ne_none p
    exact hu.spoolLaw (State.enqueue_spoolLaw ((s.within_updPort p _).spoolLaw hs) r hb hfree)

/-! ### The rules of the queued records -/

theorem queueControl_taken {h : Header} {b : Body} {u v : State} {o : Bool} {f : List Byte}
    (e : queueControl h b u = .taken v o f) : ¬ u.holdsQueued h.stream = true ∧ ∃ r, v.Within (u.enqueue h.stream r) := by
  unfold queueControl at e
  split at e
  · cases e
  · next hfree =>
    cases e
    exact ⟨hfree, _, .rfl⟩

theorem markRule_taken {h : Header} {id : Word16} {u v : State} {o : Bool} {f : List Byte}
    (e : markRule h id u = .taken v o f) : ¬ u.holdsQueued h.stream = true ∧ ∃ r, v.Within (u.enqueue h.stream r) :=
  queueControl_taken e

theorem closeRule_taken {h : Header} {a : Unit} {u v : State} {o : Bool} {f : List Byte}
    (e : closeRule h a u = .taken v o f) : ¬ u.holdsQueued h.stream = true ∧ ∃ r, v.Within (u.enqueue h.stream r) := by
  unfold closeRule at e
  split at e
  · cases e
  · next hfree =>
    cases e
    exact ⟨hfree, _, State.within_updStream ⟨rfl, le_rfl, .inr⟩⟩

theorem printRule_taken {p : Port} {h : Header} {data : List Byte} {u v : State} {o : Bool} {f : List Byte}
    (e : printRule p h data u = .taken v o f) : ¬ u.holdsQueued h.stream = true ∧ ∃ r, v.Within (u.enqueue h.stream r) := by
  unfold printRule at e
  split at e
  · cases e
  · next hfree =>
    cases e
    simp only [State.holdsPrint, Bool.or_eq_true, not_or] at hfree
    exact ⟨hfree.1, _, (State.within_countIf _ _ _ _).trans <| (State.within_countIf _ _ _ _).trans <|
      State.within_updStream ⟨rfl, le_rfl, .inr⟩⟩

/-! ### The rules of the immediate controls -/

theorem senseStreamRule_taken {p : Port} {i : StreamNo} {u v : State} {o : Bool} {f : List Byte}
    (e : senseStreamRule p i u = .taken v o f) : v.Within u := by
  unfold senseStreamRule at e
  split at e
  · cases e
    exact (State.within_updPort _ _ _).trans (State.within_updStream ⟨rfl, le_rfl, .inr⟩)
  · cases e

/-- A STREAM RELEASE is taken only where the stream's queue is empty (R18). -/
theorem streamReleaseRule_taken {i : StreamNo} {u v : State} {o : Bool} {f : List Byte}
    (e : streamReleaseRule i u = .taken v o f) : v.Within u := by
  unfold streamReleaseRule at e
  split at e
  · cases e
  · next hidle =>
    cases e
    simp only [State.active, Bool.or_eq_true, decide_eq_true_eq, not_or, not_not] at hidle
    obtain ⟨⟨⟨⟨hq, -⟩, -⟩, -⟩, -⟩ := hidle
    exact State.within_updStream ⟨rfl, le_rfl, fun _ => .inl hq⟩

theorem formLoadRule_taken {k : Fin 4} {form : Form} {u v : State} {o : Bool} {f : List Byte}
    (e : formLoadRule k form u = .taken v o f) : v.Within u := by
  unfold formLoadRule at e
  split at e
  · cases e
  · cases e
    exact .of_streams rfl

theorem engineSetRule_taken {g : EngineSettings} {u v : State} {o : Bool} {f : List Byte}
    (e : engineSetRule g u = .taken v o f) : v.Within u := by
  unfold engineSetRule at e
  split at e
  · cases e
    exact .of_streams rfl
  · cases e

/-- The quota a STREAM OPEN carries is brought into 16 to 2048 (R16). -/
theorem readOpen_quota {data : List Byte} {o : OpenOperands} (h : readOpen data = .ok o) : 16 ≤ o.quota ∧ o.quota ≤ 2048 := by
  unfold readOpen at h
  split at h
  · cases h
    simp only [clamp]
    omega
  · cases h

theorem checkControl_eq_ok {α : Type} {code : Byte} {immediate : Bool} {operands : List Byte → Except Reason α} {h : Header}
    {a : α} (e : checkControl code immediate operands h = .ok a) : operands h.data = .ok a := by
  unfold checkControl at e
  split at e
  · cases e
  · next hd =>
    split at e
    · cases e
    · split at e
      · cases e
      · exact e

/-- An update of one stream that keeps its queue and the law of that stream keeps the spool law. -/
theorem State.updStream_spoolLaw {s : State} (hs : s.SpoolLaw) {i : StreamNo} {f : Stream → Stream}
    (hq : (f (s.stream i)).queue = (s.stream i).queue) (hi : (f (s.stream i)).QueueLaw) : (s.updStream i f).SpoolLaw := by
  rw [State.spoolLaw_iff] at hs ⊢
  refine ⟨?_, fun j => ?_⟩
  · have := s.spoolUsed_updStream i f
    rw [hq] at this
    omega
  · rw [State.stream_updStream]
    split
    · next e => exact e ▸ hi
    · exact hs.2 j

/-- A first open finds an empty queue, a re-open a queue within the new quota (R16, R17). -/
theorem streamOpenRule_spoolLaw {p : Port} {i : StreamNo} {g : OpenOperands} {u v : State} {o : Bool} {f : List Byte}
    (hu : u.SpoolLaw) (hg : 16 ≤ g.quota ∧ g.quota ≤ 2048) (e : streamOpenRule p i g u = .taken v o f) : v.SpoolLaw := by
  have hi := (u.spoolLaw_iff.1 hu).2 i
  unfold streamOpenRule at e
  split at e
  · next hb =>
    split at e
    · cases e
    · cases e
      have hempty := hi.unbound hb
      exact State.updStream_spoolLaw hu rfl ⟨by simp [Stream.firstOpen, hempty], hg.1, hg.2, fun _ => hempty⟩
  · next hb =>
    split at e
    · cases e
    · next hquota =>
      cases e
      exact State.updStream_spoolLaw hu rfl ⟨Nat.le_of_not_lt hquota, hg.1, hg.2, hi.unbound⟩

/-! ### Every command, every step -/

/-- Power-on reset leaves every queue empty with the quota 2048 (R12, R192). -/
theorem reset_spoolLaw : State.reset.SpoolLaw := by decide

theorem exec_spoolLaw (c : Instr) (s : State) (hs : s.SpoolLaw) : ∃ t, exec c s = .next t ∧ t.SpoolLaw := by
  have keeps {t : State} (e : exec c s = .next t) (h : t.SpoolLaw) : ∃ t, exec c s = .next t ∧ t.SpoolLaw := ⟨t, e, h⟩
  have within {t : State} (e : exec c s = .next t) (h : t.Within s) : ∃ t, exec c s = .next t ∧ t.SpoolLaw := ⟨t, e, h.spoolLaw hs⟩
  cases c with
  | powerOnReset => exact keeps rfl ((State.Within.of_streams rfl).spoolLaw reset_spoolLaw)
  | portReset p => exact within rfl (s.within_resetPort p)
  | resetRelease p => exact within rfl (s.within_updPort p _)
  | frameRise p => exact within rfl (s.within_updPort p _)
  | answerReturn p n => exact within rfl (s.within_updPort p _)
  | byteStrobe p b => exact within rfl (s.within_updPort p _)
  | print p => exact keeps rfl (s.endEvent_spoolLaw_of_queued hs _ p _ _ (by decide) fun _ _ _ _ _ _ => printRule_taken)
  | mark p => exact keeps rfl (s.endEvent_spoolLaw_of_queued hs _ p _ _ (by decide) fun _ _ _ _ _ _ => markRule_taken)
  | close p => exact keeps rfl (s.endEvent_spoolLaw_of_queued hs _ p _ _ (by decide) fun _ _ _ _ _ _ => closeRule_taken)
  | xlateLoad p | pairLoad p | pairClear p | geometryLoad p | streamSet p | overlayBegin p | overlayEntries p | overlayEnd p =>
    exact keeps rfl (s.endEvent_spoolLaw_of_queued hs _ p _ _ (by decide) fun _ _ _ _ _ _ => queueControl_taken)
  | senseDevice p | senseMark p | portSet p =>
    exact keeps rfl (s.endEvent_spoolLaw_of_within hs _ p _ _ fun _ _ u _ _ _ e => by cases e; exact u.within_updPort p _)
  | senseStream p => exact keeps rfl (s.endEvent_spoolLaw_of_within hs _ p _ _ fun _ _ _ _ _ _ => senseStreamRule_taken)
  | streamOpen p =>
    exact keeps rfl (s.endEvent_spoolLaw hs _ p _ _ fun _ _ _ _ _ _ ht =>
      streamOpenRule_spoolLaw ((s.within_updPort p _).spoolLaw hs) (readOpen_quota (checkControl_eq_ok ht.read)) ht.ruled)
  | streamRelease p => exact keeps rfl (s.endEvent_spoolLaw_of_within hs _ p _ _ fun _ _ _ _ _ _ => streamReleaseRule_taken)
  | cancel p =>
    exact keeps rfl (s.endEvent_spoolLaw_of_within hs _ p _ _ fun h _ u _ _ _ e => by cases e; exact u.within_cancelStream h.stream)
  | formLoad p => exact keeps rfl (s.endEvent_spoolLaw_of_within hs _ p _ _ fun _ _ _ _ _ _ => formLoadRule_taken)
  | formSelect p =>
    exact keeps rfl (s.endEvent_spoolLaw_of_within hs _ p _ _ fun _ _ u _ _ _ e => by
      cases e; exact State.within_updStream ⟨rfl, le_rfl, .inr⟩)
  | stop p =>
    exact keeps rfl (s.endEvent_spoolLaw_of_within hs _ p _ _ fun _ _ u _ _ _ e => by cases e; exact u.within_stopRequest _)
  | resume p =>
    exact keeps rfl (s.endEvent_spoolLaw_of_within hs _ p _ _ fun _ _ u _ _ _ e => by cases e; exact u.within_start)
  | engineSet p => exact keeps rfl (s.endEvent_spoolLaw_of_within hs _ p _ _ fun _ _ _ _ _ _ => engineSetRule_taken)
  | takePrint => exact within rfl (s.within_take _ fun i r a => printTaking_within s i r a)
  | takeMark => exact within rfl (s.within_take _ fun i r a => markTaking_within s i r a)
  | takeClose => exact within rfl (s.within_take _ fun i _ _ => closeTaking_within s i)
  | takeXlateLoad =>
    exact within rfl (s.within_take _ fun i _ load =>
      controlTaking_within s i (fun v => v.within_fenceTest i load.1) fun v => v.within_loadTable i _ _)
  | takePairLoad =>
    exact within rfl (s.within_take _ fun i _ load =>
      controlTaking_within s i (fun v => v.within_fenceTest i load.1) fun v => v.within_applyPairs i _ _)
  | takePairClear =>
    exact within rfl (s.within_take _ fun i _ k =>
      controlTaking_within s i (fun v => v.within_fenceTest i k) fun v => v.within_loadTable i _ _)
  | takeGeometryLoad =>
    exact within rfl (s.within_take _ fun i _ _ => controlTaking_within s i (fun _ => .rfl) fun _ => .of_streams rfl)
  | takeStreamSet =>
    exact within rfl (s.within_take _ fun i _ _ =>
      controlTaking_within s i (fun _ => .rfl) fun _ => State.within_updStream ⟨rfl, le_rfl, .inr⟩)
  | takeOverlayBegin =>
    exact within rfl (s.within_take _ fun i _ load =>
      controlTaking_within s i (fun v => v.within_beginTest i load.1) fun v => v.within_beginLoad i _ _)
  | takeOverlayEntries =>
    exact within rfl (s.within_take _ fun i _ _ =>
      controlTaking_within s i (fun _ => .rfl) fun v => v.within_addEntries i _)
  | takeOverlayEnd =>
    exact within rfl (s.within_take _ fun i _ _ => controlTaking_within s i (fun _ => .rfl) fun v => v.within_endLoad i)
  | pageAgeExpiry i => exact within rfl (State.within_updStream ⟨rfl, le_rfl, .inr⟩)
  | selection => exact within rfl (State.Within.of_streams (by rw [State.select_frame]))
  | renderingComplete => exact within rfl s.within_renderingDone
  | sheet => exact within rfl s.within_issueSheet
  | sendComplete => exact within rfl s.within_sendDone
  | ready => exact within rfl s.within_readyReport
  | notReady =>
    exact within rfl ((State.within_engineCause _ _).trans ((State.within_deviceCond _ _).trans (.of_streams rfl)))
  | trayEmpty n | stackerFull n =>
    exact within rfl (s.within_numberedReport n _ _)
  | stacked tag => exact within rfl (s.within_stackedReport tag)
  | jam => exact within rfl (s.within_jamEvent _ _)
  | restarted => exact within rfl ((State.within_jamEvent _ _ _).trans (.of_streams rfl))
  | unrecognisedReport code => exact keeps rfl hs
  | stackTimeout => exact within rfl s.within_stackTimerExpires
  | panelStart k => exact within rfl (s.within_panelSample k _ State.within_start)
  | panelStop k => exact within rfl (s.within_panelSample k _ fun u => u.within_stopRequest _)
  | purge k => exact within rfl (s.within_panelSample k _ State.within_purge)
  | keySample k => exact within rfl (s.within_panelSample k _ fun _ => .rfl)

/-- Settles O51: a command on the rest of the queue keeps the law, and so does the grant made on an empty queue. -/
theorem everyStepKeepsTheSpoolLaw : Obligations.EveryStepKeepsTheSpoolLaw := by
  unfold Obligations.EveryStepKeepsTheSpoolLaw
  intro s t hs h
  unfold step at h
  split at h
  · cases h
    exact s.within_makeGrant.spoolLaw hs
  · next c rest _ =>
    obtain ⟨u, hu, hlaw⟩ := exec_spoolLaw c { s with pending := rest } hs
    rw [hu] at h
    cases h
    exact hlaw

end Sys2Proof.Machine
end

section
/-! The header checks (R4 to R7, R10): which commands may end a record, what the checks answer for any bytes, and how a refusal is
counted. -/

namespace Sys2Proof.Machine

/-! ### The commands that may end a record (log entry 1) -/

/-- The class of a row's records. -/
def Row.cls : Row → Class
  | .print => .print
  | .mark => .mark
  | .close => .close
  | .control _ => .control
  | .sense _ => .control

/-- A record command is listed under the class number of its row. -/
theorem recordCommands_cls {p : Port} {cls : Nat} {c : Instr} (h : (cls, c) ∈ recordCommands p) : cls = (rowOf c).cls.code := by
  have : ∀ e ∈ recordCommands p, e.1 = (rowOf e.2).cls.code := by cases p <;> decide
  exact this _ h

/-- The row is a control's of this code, or a SENSE's and the code is 01h (R174). -/
def Row.hasCode (code : Nat) : Row → Prop
  | .control k => k = BitVec.ofNat 8 code
  | .sense _ => code = 1
  | _ => False

theorem rowOf_hasCode {p : Port} {n : Nat} {c : Instr} (h : (n, c) ∈ (controlCommands p).map fun e => (e.1, e.2.2)) :
    (rowOf c).hasCode n := by
  obtain ⟨e, he, heq⟩ := List.mem_map.1 h
  obtain ⟨rfl, rfl⟩ : e.1 = n ∧ e.2.2 = c := by simpa using heq
  have : ∀ e ∈ controlCommands p, (rowOf e.2.2).hasCode e.1 := by
    unfold controlCommands
    repeat refine List.forall_mem_cons.2 ⟨rfl, ?_⟩
    exact List.forall_mem_nil _
  exact this e he

theorem rowOf_sense {p : Port} {n : Nat} {c : Instr} (h : (n, c) ∈ senseCommands p) : rowOf c = .sense (BitVec.ofNat 8 n) := by
  have : ∀ e ∈ senseCommands p, rowOf e.2 = .sense (BitVec.ofNat 8 e.1) := by cases p <;> decide
  exact this _ h

theorem knownCode_iff (b : Byte) :
    knownCode b = true ↔ 0x01 ≤ b.toNat ∧ b.toNat ≤ 0x0A ∨ 0x21 ≤ b.toNat ∧ b.toNat ≤ 0x28 := by
  simp [knownCode]

theorem byte_eq_ofNat (b : Byte) : b = BitVec.ofNat 8 b.toNat := by simp

/-- The class a first header byte names is the one with its number (R183). -/
theorem classOf_eq_some_iff (b : Byte) (c : Class) : classOf b = some c ↔ b.toNat / 16 = c.code := by
  unfold classOf hiNibble
  split <;> (cases c <;> simp_all [Class.code])

theorem classOf_eq_none_iff (b : Byte) : classOf b = none ↔ b.toNat / 16 = 0 ∨ 4 < b.toNat / 16 := by
  unfold classOf hiNibble
  split <;> (simp_all; try omega)

/-- A record of an undefined class fits every row. -/
theorem Row.fits_of_classOf_none (row : Row) {b0 : Byte} (rest : List Byte) (h : classOf b0 = none) :
    row.fits (b0 :: rest) = true := by
  simp [Row.fits, h]

/-- A record of the row's class fits it where, for a CONTROL record, its data does. -/
theorem Row.fits_of_cls (row : Row) {b0 : Byte} (rest : List Byte) (h : classOf b0 = some row.cls)
    (hd : row.cls = .control → row.fitsControl (rest.drop 3) = true) : row.fits (b0 :: rest) = true := by
  cases row <;> simp_all [Row.fits, Row.cls]

/-- The data of a CONTROL record fits a control's row where its code is missing, unknown or the row's own, and for a SENSE its selector
too. -/
theorem Row.fitsControl_of (row : Row) (data : List Byte) (hrow : row.cls = .control)
    (hcode : ∀ b ∈ data.head?, knownCode b = true → row.hasCode b.toNat ∧
      ∀ k ∈ data[1]?, knownSelector k = true → ∀ sel, row = .sense sel → k = sel) : row.fitsControl data = true := by
  cases row with
  | control code =>
    cases data with
    | nil => rfl
    | cons c rest =>
      have hcode := fun hk => (hcode c rfl hk).1
      simp only [Row.hasCode, ← byte_eq_ofNat] at hcode
      simp only [Row.fitsControl, Bool.or_eq_true, Bool.not_eq_true', decide_eq_true_eq]
      by_cases hk : knownCode c = true
      · exact .inr (hcode hk).symm
      · exact .inl (by simpa using hk)
  | sense sel =>
    have hone : ∀ c ∈ data.head?, knownCode c = true → c = 0x01#8 := fun c hc hk =>
      BitVec.eq_of_toNat_eq (hcode c hc hk).1
    match data with
    | [] => rfl
    | [c] =>
      simp only [Row.fitsControl, Bool.or_eq_true, Bool.not_eq_true', decide_eq_true_eq]
      by_cases hk : knownCode c = true
      · exact .inr (hone c rfl hk)
      · exact .inl (by simpa using hk)
    | c :: k :: rest =>
      simp only [Row.fitsControl, Bool.or_eq_true, Bool.and_eq_true, Bool.not_eq_true', decide_eq_true_eq]
      by_cases hk : knownCode c = true
      · refine .inr ⟨hone c rfl hk, ?_⟩
        by_cases hs : knownSelector k = true
        · exact .inr ((hcode c rfl hk).2 k rfl hs sel rfl)
        · exact .inl (by simpa using hs)
      · exact .inl (by simpa using hk)
  | print => cases hrow
  | mark => cases hrow
  | close => cases hrow

/-- A record that the command may end fits the command's row. -/
theorem fits_of_mayEnd {p : Port} {c : Instr} {b0 b1 b2 b3 : Byte} {data : List Byte} (h : MayEnd p c b0 data) :
    (rowOf c).fits (b0 :: b1 :: b2 :: b3 :: data) = true := by
  rcases h with h | h | ⟨hmem, hctl⟩
  · exact Row.fits_of_classOf_none _ _ ((classOf_eq_none_iff b0).2 (.inl h))
  · exact Row.fits_of_classOf_none _ _ ((classOf_eq_none_iff b0).2 (.inr h))
  · have hcls := recordCommands_cls hmem
    refine Row.fits_of_cls _ _ ((classOf_eq_some_iff b0 _).2 hcls) fun hc => ?_
    have hctl := hctl (by rw [hcls, hc]; rfl)
    refine Row.fitsControl_of _ _ hc fun b hb hk => ?_
    obtain ⟨hin, hsel⟩ := (hctl b hb).resolve_left fun hu => hu ((knownCode_iff b).1 hk)
    have hrow := rowOf_hasCode hin
    refine ⟨hrow, fun k hk hknown sel e => ?_⟩
    rw [e] at hrow
    have hin : (k.toNat, c) ∈ senseCommands p := by
      simp only [knownSelector, decide_eq_true_eq] at hknown
      rcases hsel hrow k hk with h | h | h
      · omega
      · omega
      · exact h
    have := rowOf_sense hin
    simpa [e, eq_comm] using this

/-- A record without a whole header fits every row of the class its first byte names, and any row where it names none. -/
theorem fits_of_short (row : Row) {bytes : List Byte} (hlen : bytes.length < 4)
    (hcls : ∀ b ∈ bytes.head?, b.toNat / 16 = row.cls.code ∨ b.toNat / 16 = 0 ∨ 4 < b.toNat / 16) : row.fits bytes = true := by
  cases bytes with
  | nil => rfl
  | cons b0 rest =>
    have hdrop : rest.drop 3 = [] := List.drop_eq_nil_of_le (by simp only [List.length_cons] at hlen; omega)
    rcases hcls b0 rfl with h | h
    · exact Row.fits_of_cls _ _ ((classOf_eq_some_iff b0 _).2 h) fun hc =>
        Row.fitsControl_of _ _ hc fun b hb => by simp [hdrop] at hb
    · exact Row.fits_of_classOf_none _ _ ((classOf_eq_none_iff b0).2 h)

/-! ### What the checks answer (R5 to R7) -/

theorem streamOf_eq (n : Nat) : streamOf n = if h : n < 8 then some ⟨n, h⟩ else none := rfl

theorem loNibble_eq (b : Byte) : loNibble b = b.toNat % 16 := rfl

/-- The refusal of step 3 (R6). -/
theorem bindingRefusal_eq (s : State) (p : Port) (i : StreamNo) (c : Class) (data : List Byte) :
    bindingRefusal s p i c data =
      if (s.stream i).binding = none ∧ ¬(c.code = 2 ∧ data.head? = some 0x02#8) then some .streamNotOpen
      else if (s.stream i).binding ≠ none ∧ (s.stream i).binding ≠ some p then some .streamBusy
      else none := by
  have hopen : isStreamOpen c data = true ↔ c.code = 2 ∧ data.head? = some 0x02#8 := by
    cases c <;> simp [isStreamOpen, Class.code]
  unfold bindingRefusal
  cases (s.stream i).binding with
  | none => by_cases h : c.code = 2 ∧ data.head? = some 0x02#8 <;> simp [h, hopen]
  | some q => by_cases h : q = p <;> simp [h]

/-- The refusal of step 4 (R7). -/
theorem lengthRefusal_eq (c : Class) (data : List Byte) :
    lengthRefusal c data =
      if c.code = 3 ∧ data.length ≠ 2 then some .length else if c.code = 4 ∧ data.length ≠ 0 then some .length else none := by
  cases c <;> simp [lengthRefusal, Class.code]

/-- Step 5 passes NONE on every class, and on a PRINT record SPACE 1 to 3 and SKIP 1 to 7 (R7). -/
theorem carriageFor_eq_none (c : Class) (b : Byte) (h0 : b.toNat / 16 ≠ 0)
    (h1 : ¬(c.code = 1 ∧ (17 ≤ b.toNat ∧ b.toNat ≤ 19 ∨ 33 ≤ b.toNat ∧ b.toNat ≤ 39))) : carriageFor c b = none := by
  cases c with
  | print =>
    simp only [Class.code, true_and] at h1
    unfold carriageFor actionOf hiNibble loNibble
    dsimp only
    split
    · contradiction
    · exact if_neg (by omega)
    · exact if_neg (by omega)
    · rfl
  | control => exact if_neg h0
  | mark => exact if_neg h0
  | close => exact if_neg h0

/-- Steps 3 to 5 of R4, the stream and the class being known. -/
theorem steps_of_refusal {s : State} {p : Port} {i : StreamNo} {c : Class} {carriage : Byte} {data : List Byte} {r : Reason}
    (hdr : Action → Header)
    (h : (if (s.stream i).binding = none ∧ ¬(c.code = 2 ∧ data.head? = some 0x02#8) then some .streamNotOpen
      else if (s.stream i).binding ≠ none ∧ (s.stream i).binding ≠ some p then some .streamBusy
      else if c.code = 3 ∧ data.length ≠ 2 then some .length
      else if c.code = 4 ∧ data.length ≠ 0 then some .length
      else if carriage.toNat / 16 = 0 then none
      else if c.code = 1 ∧ (17 ≤ carriage.toNat ∧ carriage.toNat ≤ 19 ∨ 33 ≤ carriage.toNat ∧ carriage.toNat ≤ 39) then none
      else some Reason.carriageInvalid) = some r) :
    (match bindingRefusal s p i c data with
      | some r => Except.error r
      | none =>
        match lengthRefusal c data with
        | some r => .error r
        | none =>
          match carriageFor c carriage with
          | some a => .ok (hdr a)
          | none => .error .carriageInvalid) = .error r := by
  rw [bindingRefusal_eq, lengthRefusal_eq]
  split at h
  · next hb => cases h; rw [if_pos hb]
  next hopen =>
  rw [if_neg hopen]
  split at h
  · next hb => cases h; rw [if_pos hb]
  next hbusy =>
  rw [if_neg hbusy]
  split at h
  · next hl => cases h; rw [if_pos hl]
  next hmark =>
  rw [if_neg hmark]
  split at h
  · next hl => cases h; rw [if_pos hl]
  next hclose =>
  rw [if_neg hclose]
  split at h
  · cases h
  next h0 =>
  split at h
  · cases h
  next h1 =>
  cases h
  rw [carriageFor_eq_none c carriage h0 h1]

/-- The checks of steps 1 to 5 give the refusal of the first check that fails. -/
theorem checkHeader_of_headerRefusal {s : State} {p : Port} {b0 carriage flags n : Byte} {data : List Byte} {long : Bool}
    {r : Reason} (h : headerRefusal s p b0 carriage flags n data long = some r) :
    checkHeader s p (b0 :: carriage :: flags :: n :: data) long = .error r := by
  unfold headerRefusal at h
  dsimp only at h
  unfold checkHeader
  dsimp only
  rw [streamOf_eq, loNibble_eq]
  split at h
  · next hshort => cases h; rw [if_pos hshort]
  next hshort =>
  rw [if_neg hshort]
  split at h
  · next hlong => cases h; rw [if_pos hlong]
  next hlong =>
  rw [if_neg hlong]
  split at h
  · next hi => cases h; rw [dif_neg (by omega)]
  next hi =>
  rw [dif_pos (by omega)]
  split at h
  · next hc => cases h; rw [(classOf_eq_none_iff b0).2 hc]
  next hc =>
  obtain ⟨c, hcls⟩ : ∃ c, classOf b0 = some c := Option.ne_none_iff_exists'.1 fun e => hc ((classOf_eq_none_iff b0).1 e)
  simp only [(classOf_eq_some_iff b0 c).1 hcls] at h
  rw [hcls]
  dsimp only
  split at h
  · next hf => cases h; rw [if_pos hf]
  next hf =>
  rw [if_neg hf]
  exact steps_of_refusal _ h

/-! ### A record refused at its header -/

/-- The end event of a record of the row whose header fails a check. -/
theorem State.endEvent_refused {α : Type} (s : State) (row : Row) (p : Port) (operands : Header → Except Reason α)
    (rule : Header → α → State → Ruling) {bytes : List Byte} {r : Reason} (hr : (s.port p).reception = .receiving)
    (hb : (s.port p).bytes = bytes) (hf : row.fits bytes = true) (hh : checkHeader s p bytes (s.port p).ranLong = .error r) :
    s.endEvent row p operands rule = (s.lowerFrame p).refuse p bytes r := by
  subst hb
  simp [State.endEvent, State.gate, hr, hf, hh]

/-- A refusal of a record without a whole header is counted on no stream (R5). -/
theorem State.refuse_short (s : State) (p : Port) {bytes : List Byte} (r : Reason) (h : bytes.length < 4) :
    (s.lowerFrame p).refuse p bytes r = s.answeredRefused p none r := by
  have hn : namedStream bytes = none := by
    match bytes, h with
    | [], _ => rfl
    | [_], _ => rfl
    | [_, _], _ => rfl
    | [_, _, _], _ => rfl
  rw [State.refuse, hn]
  rfl

/-- A refusal of a record with a whole header is counted as R10 states. -/
theorem State.refuse_whole (s : State) (p : Port) (b0 b1 b2 b3 : Byte) (data : List Byte) (r : Reason) :
    (s.lowerFrame p).refuse p (b0 :: b1 :: b2 :: b3 :: data) r = s.answeredRefused p
      (if h : b0.toNat % 16 < 8 then
        if (s.stream ⟨b0.toNat % 16, h⟩).binding = some p ∨ r = .streamBusy ∨ r = .streamNotOpen then some ⟨b0.toNat % 16, h⟩
        else none
      else none) r := by
  have hn : namedStream (b0 :: b1 :: b2 :: b3 :: data) = streamOf (b0.toNat % 16) := rfl
  rw [State.refuse, hn, streamOf_eq]
  by_cases hi : b0.toNat % 16 < 8
  · rw [dif_pos hi, dif_pos hi]
    by_cases hc : (s.stream ⟨b0.toNat % 16, hi⟩).binding = some p ∨ r = .streamBusy ∨ r = .streamNotOpen
    · rw [if_pos hc]
      exact congrArg (fun u : State => u.answer p (.refused r) false []) (if_pos hc)
    · rw [if_neg hc]
      exact congrArg (fun u : State => u.answer p (.refused r) false []) (if_neg hc)
  · rw [dif_neg hi, dif_neg hi]
    rfl

theorem checkHeader_short (s : State) (p : Port) {bytes : List Byte} (long : Bool) (h : bytes.length < 4) :
    checkHeader s p bytes long = .error .shortRecord := by
  match bytes, h with
  | [], _ => rfl
  | [_], _ => rfl
  | [_, _], _ => rfl
  | [_, _, _], _ => rfl

/-- Settles O8. -/
theorem headerChecksRefuseInOrder : Obligations.HeaderChecksRefuseInOrder := by
  unfold Obligations.HeaderChecksRefuseInOrder
  intro s p cls c hc
  obtain ⟨α, operands, rule, hexec⟩ := exec_recordCommand hc
  simp only [hexec, Host.Outcome.next.injEq]
  refine ⟨s.endEvent_idle _ p operands rule, ?_, ?_⟩
  · rintro bytes ⟨hr, hb, -⟩ hlen hcls
    rw [recordCommands_cls hc] at hcls
    rw [s.endEvent_refused _ p operands rule hr hb (fits_of_short _ hlen hcls) (checkHeader_short s p _ hlen),
      s.refuse_short p _ hlen]
  · intro b0 carriage flags n data r hr hb hmay hrefusal
    rw [s.endEvent_refused _ p operands rule hr hb (fits_of_mayEnd hmay) (checkHeader_of_headerRefusal hrefusal),
      s.refuse_whole]

end Sys2Proof.Machine
end

section
/-! The operands of the controls (R8, R183), read by their place: each reader answers LENGTH where the data is not of the required length,
OPERAND RANGE where an operand that does not clamp is out of range, and otherwise the value the bytes stand for. -/

namespace Sys2Proof.Machine

/-! ### Bytes and the numbers they name -/

theorem byteAt_lt (d : List Byte) (n : Nat) : byteAt d n < 256 := (d[n]?.getD 0).isLt

theorem byteAt_drop (d : List Byte) (m n : Nat) : byteAt (d.drop m) n = byteAt d (m + n) := by
  simp [byteAt, List.getElem?_drop]

theorem wordAt_drop (d : List Byte) (m n : Nat) : wordAt (d.drop m) n = wordAt d (m + n) := by
  simp [wordAt, byteAt_drop, Nat.add_assoc]

theorem byte_eq_iff (b c : Byte) : b = c ↔ b.toNat = c.toNat := BitVec.toNat_inj.symm

/-- A bounded number read as a `Fin` is what `Fin.ofNat` makes of it. -/
theorem fin_mk_eq_ofNat {n m : Nat} [NeZero n] (h : m < n) : (⟨m, h⟩ : Fin n) = Fin.ofNat n m :=
  Fin.ext (Nat.mod_eq_of_lt h).symm

theorem tableSetOf_eq (b : Byte) : tableSetOf b = if b.toNat ≤ 1 then some (Fin.ofNat 2 b.toNat) else none := by
  unfold tableSetOf
  split
  · next h => rw [if_pos (by omega), fin_mk_eq_ofNat]
  · next h => rw [if_neg (by omega)]

theorem eightOf_eq (b : Byte) : eightOf b = if b.toNat ≤ 7 then some (Fin.ofNat 8 b.toNat) else none := by
  unfold eightOf
  split
  · next h => rw [if_pos (by omega), fin_mk_eq_ofNat]
  · next h => rw [if_neg (by omega)]

theorem glyphOf_eq (hi lo : Byte) :
    glyphOf hi lo = if num16 hi lo ≤ 383 then some (Fin.ofNat 384 (num16 hi lo)) else none := by
  unfold glyphOf
  split
  · next h => rw [if_pos (by omega), fin_mk_eq_ofNat]
  · next h => rw [if_neg (by omega)]

theorem markOf_eq (b : Byte) : markOf b = if b.toNat % 16 = 0 then none else some (Fin.ofNat 16 b.toNat) := rfl

theorem pairMarkOf_eq (b : Byte) :
    pairMarkOf b = if 1 ≤ b.toNat ∧ b.toNat ≤ 15 then some (Fin.ofNat 16 b.toNat) else none := by
  unfold pairMarkOf
  split
  · next h => rw [if_pos (by omega), fin_mk_eq_ofNat]
  · next h => rw [if_neg (by omega)]

theorem overlayOf_eq (b : Byte) :
    overlayOf b = if b.toNat ≤ 7 ∨ b.toNat = 255 then some (if b.toNat = 255 then none else some (Fin.ofNat 8 b.toNat))
      else none := by
  unfold overlayOf
  simp only [byte_eq_iff, eightOf_eq]
  by_cases h : b.toNat = 255
  · simp [h]
  · by_cases h7 : b.toNat ≤ 7 <;> simp [h, h7]

theorem of_ite_some {α : Type} {p : Prop} [Decidable p] {x y : α} (h : (if p then some x else none) = some y) : p := by
  by_contra hp
  rw [if_neg hp] at h
  cases h

/-- An enumeration of two byte values. -/
theorem twoOf_eq {α : Type} (b c e : Byte) (x y : α) :
    (if b = c then some x else if b = e then some y else none)
      = if b.toNat = c.toNat ∨ b.toNat = e.toNat then some (if b.toNat = c.toNat then x else y) else none := by
  simp only [byte_eq_iff]
  by_cases hc : b.toNat = c.toNat
  · simp only [if_pos hc, if_pos (Or.inl hc)]
  · simp only [hc, false_or, if_false]

/-! ### Lists of entries -/

/-- A reader of entries of `n` bytes each, which reads the first entry and then the rest, reads every entry at its own place where
all are in range, and answers none where one is not. -/
theorem readEntries_eq {ε : Type} {n : Nat} {read : List Byte → Option (List ε)} {InRange : List Byte → Nat → Prop}
    [∀ d e, Decidable (InRange d e)] {entryAt : List Byte → Nat → ε} (hnil : read [] = some [])
    (hcons : ∀ l, n ≤ l.length → read l = if InRange l 0 then (read (l.drop n)).map (entryAt l 0 :: ·) else none)
    (hrange : ∀ l m e, InRange (l.drop m) e ↔ InRange l (m + e)) (hat : ∀ l m e, entryAt (l.drop m) e = entryAt l (m + e))
    (k : Nat) (l : List Byte) (hl : l.length = n * k) :
    read l = if ∀ j < k, InRange l (n * j) then some ((List.range k).map fun j => entryAt l (n * j)) else none := by
  induction k generalizing l with
  | zero => simp_all
  | succ k ih =>
    have hrest := ih (l.drop n) (by rw [List.length_drop, hl, Nat.mul_succ]; omega)
    simp only [hrange, hat, ← Nat.mul_succ, Nat.add_comm n] at hrest
    rw [hcons l (by rw [hl, Nat.mul_succ]; omega), hrest]
    simp only [Nat.forall_lt_succ_left, Nat.mul_zero, List.range_succ_eq_map, List.map_cons, List.map_map]
    by_cases h0 : InRange l 0
    · by_cases hr : ∀ j < k, InRange l (n * (j + 1))
      · rw [if_pos h0, if_pos hr, if_pos ⟨h0, hr⟩]
        rfl
      · rw [if_pos h0, if_neg hr, if_neg fun h => hr h.2]
        rfl
    · rw [if_neg h0, if_neg fun h => h0 h.1]

/-- The same for the entries of a record's data that stand behind its first `m` bytes. -/
theorem readEntries_drop_eq {ε : Type} {n m : Nat} {read : List Byte → Option (List ε)} {InRange : List Byte → Nat → Prop}
    [∀ d e, Decidable (InRange d e)] {entryAt : List Byte → Nat → ε} (hnil : read [] = some [])
    (hcons : ∀ l, n ≤ l.length → read l = if InRange l 0 then (read (l.drop n)).map (entryAt l 0 :: ·) else none)
    (hrange : ∀ l m e, InRange (l.drop m) e ↔ InRange l (m + e)) (hat : ∀ l m e, entryAt (l.drop m) e = entryAt l (m + e))
    {k : Nat} {d : List Byte} (hd : d.length = m + n * k) :
    read (d.drop m)
      = if ∀ j < k, InRange d (m + n * j) then some ((List.range k).map fun j => entryAt d (m + n * j)) else none := by
  rw [readEntries_eq hnil hcons hrange hat k _ (by rw [List.length_drop]; omega)]
  simp only [hrange, hat]

theorem xlateInRange_drop (l : List Byte) (m e : Nat) : XlateInRange (l.drop m) e ↔ XlateInRange l (m + e) := by
  simp [XlateInRange, byteAt_drop, wordAt_drop, Nat.add_assoc]

theorem xlateAt_drop (l : List Byte) (m e : Nat) : xlateAt (l.drop m) e = xlateAt l (m + e) := by
  simp [xlateAt, byteAt_drop, wordAt_drop, Nat.add_assoc]

theorem pairInRange_drop (l : List Byte) (m e : Nat) : PairInRange (l.drop m) e ↔ PairInRange l (m + e) := by
  simp [PairInRange, byteAt_drop, wordAt_drop, Nat.add_assoc]

theorem pairAt_drop (l : List Byte) (m e : Nat) : pairAt (l.drop m) e = pairAt l (m + e) := by
  simp [pairAt, byteAt_drop, wordAt_drop, Nat.add_assoc]

theorem overlayInRange_drop (l : List Byte) (m e : Nat) : OverlayInRange (l.drop m) e ↔ OverlayInRange l (m + e) := by
  simp [OverlayInRange, byteAt_drop, wordAt_drop, Nat.add_assoc]

theorem overlayAt_drop (l : List Byte) (m e : Nat) : overlayAt (l.drop m) e = overlayAt l (m + e) := by
  simp [overlayAt, byteAt_drop, wordAt_drop, Nat.add_assoc]

theorem stopAt_drop (l : List Byte) (m e : Nat) : stopAt (l.drop m) e = stopAt l (m + e) := by
  simp [stopAt, byteAt_drop, Nat.add_assoc]

/-- One translate entry (R50). -/
theorem xlateEntryOf_eq (k g1 g0 : Byte) (rest : List Byte) :
    xlateEntryOf k g1 g0
      = if XlateInRange (k :: g1 :: g0 :: rest) 0 then some (xlateAt (k :: g1 :: g0 :: rest) 0) else none := by
  have hw : num16 g1 g0 = wordAt (k :: g1 :: g0 :: rest) 1 := num16_eq g1 g0
  have hb : k.toNat = byteAt (k :: g1 :: g0 :: rest) 0 := rfl
  unfold xlateEntryOf hiNibble XlateInRange xlateAt
  rw [glyphOf_eq, markOf_eq, hw, hb]
  generalize byteAt (k :: g1 :: g0 :: rest) 0 = b
  generalize wordAt (k :: g1 :: g0 :: rest) 1 = w
  split
  · next h => simp [h]
  · next h => simp [h]
  · next h => simp [h]
  · next h => by_cases hg : w ≤ 383 <;> simp [h, hg]
  · next h0 h1 h2 h3 =>
    rw [if_neg]
    rintro ⟨hle, -⟩
    interval_cases b / 16 <;> contradiction

theorem readXlateEntries_cons (l : List Byte) (hl : 3 ≤ l.length) :
    readXlateEntries l = if XlateInRange l 0 then (readXlateEntries (l.drop 3)).map (xlateAt l 0 :: ·) else none := by
  match l, hl with
  | k :: g1 :: g0 :: rest, _ =>
    rw [readXlateEntries, xlateEntryOf_eq k g1 g0 rest]
    by_cases h : XlateInRange (k :: g1 :: g0 :: rest) 0
    · rw [if_pos h, if_pos h]
      cases hr : readXlateEntries rest <;> simp [hr]
    · rw [if_neg h, if_neg h]

/-- One pair entry (R52). -/
theorem readPairEntries_cons (l : List Byte) (hl : 5 ≤ l.length) :
    readPairEntries l = if PairInRange l 0 then (readPairEntries (l.drop 5)).map (pairAt l 0 :: ·) else none := by
  match l, hl with
  | g1 :: g0 :: m :: c1 :: c0 :: rest, _ =>
    have hg : num16 g1 g0 = wordAt (g1 :: g0 :: m :: c1 :: c0 :: rest) 0 := num16_eq g1 g0
    have hc : num16 c1 c0 = wordAt (g1 :: g0 :: m :: c1 :: c0 :: rest) 3 := num16_eq c1 c0
    have hm : m.toNat = byteAt (g1 :: g0 :: m :: c1 :: c0 :: rest) 2 := rfl
    have hrest : (g1 :: g0 :: m :: c1 :: c0 :: rest).drop 5 = rest := rfl
    rw [readPairEntries, hrest, glyphOf_eq, glyphOf_eq, pairMarkOf_eq, hg, hc, hm]
    unfold PairInRange pairAt
    generalize byteAt (g1 :: g0 :: m :: c1 :: c0 :: rest) 2 = b
    generalize wordAt (g1 :: g0 :: m :: c1 :: c0 :: rest) 0 = v
    generalize wordAt (g1 :: g0 :: m :: c1 :: c0 :: rest) 3 = w
    by_cases h1 : v ≤ 383
    · by_cases h2 : 1 ≤ b ∧ b ≤ 15
      · by_cases h3 : w ≤ 383
        · simp only [h1, h2, h3, if_true, and_self]
          cases readPairEntries rest <;> rfl
        · simp [h1, h2, h3]
      · have hn : ¬(v ≤ 383 ∧ 1 ≤ b ∧ b ≤ 15 ∧ w ≤ 383) := fun ⟨_, hb, hb', _⟩ => h2 ⟨hb, hb'⟩
        rw [if_pos h1, if_neg h2, if_neg hn]
    · simp [h1]

/-- The ranges of an overlay entry's kind and extents (R125). -/
theorem shapeOf_eq (k : Byte) (f g : Nat) :
    shapeOf k f g =
      if 1 ≤ f ∧ f ≤ 5100 ∧ 1 ≤ g ∧ (((k.toNat / 16 = 1 ∨ k.toNat / 16 = 2) ∧ g ≤ 64) ∨
        (k.toNat / 16 = 3 ∧ g ≤ 5100 ∧ (k.toNat % 16 = 1 ∨ k.toNat % 16 = 2))) then
        some (if k.toNat / 16 = 1 then .hrule f g else if k.toNat / 16 = 2 then .vrule f g
          else .band f g (if k.toNat % 16 = 1 then .quarter else .half))
      else none := by
  unfold shapeOf hiNibble
  split
  · next h => simp [h]
  · next h => simp [h]
  · next h =>
    have hd : densityOf k = if k.toNat % 16 = 1 ∨ k.toNat % 16 = 2 then some (if k.toNat % 16 = 1 then .quarter else .half)
        else none := by
      unfold densityOf loNibble
      split
      · next h1 => simp [h1]
      · next h2 => simp [h2]
      · next h1 h2 => rw [if_neg (by rintro (h | h) <;> contradiction)]
    rw [hd]
    by_cases he : 1 ≤ f ∧ f ≤ 5100 ∧ 1 ≤ g ∧ g ≤ 5100
    · by_cases hk : k.toNat % 16 = 1 ∨ k.toNat % 16 = 2 <;> simp [h, he, hk]
    · rw [if_neg he, if_neg (by omega)]
  · next h1 h2 h3 => rw [if_neg (by rintro ⟨-, -, -, ⟨h | h, -⟩ | ⟨h, -⟩⟩ <;> contradiction)]

/-- One overlay entry (R125). -/
theorem overlayEntryOf_eq (k : Byte) (x y f g n e : Nat) :
    overlayEntryOf k x y f g n e =
      if x ≤ 5099 ∧ y ≤ 5099 ∧ 1 ≤ n ∧ e ≤ 5100 ∧ 1 ≤ f ∧ f ≤ 5100 ∧ 1 ≤ g ∧
        (((k.toNat / 16 = 1 ∨ k.toNat / 16 = 2) ∧ g ≤ 64) ∨
          (k.toNat / 16 = 3 ∧ g ≤ 5100 ∧ (k.toNat % 16 = 1 ∨ k.toNat % 16 = 2))) then
        some ⟨if k.toNat / 16 = 1 then .hrule f g else if k.toNat / 16 = 2 then .vrule f g
          else .band f g (if k.toNat % 16 = 1 then .quarter else .half), x, y, n, e⟩
      else none := by
  unfold overlayEntryOf
  rw [shapeOf_eq]
  by_cases hplace : x ≤ 5099 ∧ y ≤ 5099 ∧ 1 ≤ n ∧ e ≤ 5100
  · obtain ⟨hx, hy, hn, he⟩ := hplace
    simp only [hx, hy, hn, he, true_and, and_self, if_true]
    split <;> rfl
  · rw [if_neg hplace, if_neg fun ⟨hx, hy, hn, he, _⟩ => hplace ⟨hx, hy, hn, he⟩]

theorem readOverlayList_cons (l : List Byte) (hl : 12 ≤ l.length) :
    readOverlayList l = if OverlayInRange l 0 then (readOverlayList (l.drop 12)).map (overlayAt l 0 :: ·) else none := by
  match l, hl with
  | k :: x1 :: x0 :: y1 :: y0 :: f1 :: f0 :: g1 :: g0 :: n :: s1 :: s0 :: rest, _ =>
    have hread : overlayEntryOf k (num16 x1 x0) (num16 y1 y0) (num16 f1 f0) (num16 g1 g0) n.toNat (num16 s1 s0) =
        if OverlayInRange (k :: x1 :: x0 :: y1 :: y0 :: f1 :: f0 :: g1 :: g0 :: n :: s1 :: s0 :: rest) 0 then
          some (overlayAt (k :: x1 :: x0 :: y1 :: y0 :: f1 :: f0 :: g1 :: g0 :: n :: s1 :: s0 :: rest) 0)
        else none := by
      simp only [num16_eq]
      exact overlayEntryOf_eq _ _ _ _ _ _ _
    rw [readOverlayList, hread]
    by_cases h : OverlayInRange (k :: x1 :: x0 :: y1 :: y0 :: f1 :: f0 :: g1 :: g0 :: n :: s1 :: s0 :: rest) 0
    · rw [if_pos h, if_pos h]
      cases hr : readOverlayList rest <;> simp [hr]
    · rw [if_neg h, if_neg h]

/-- Stop entries are read whatever they hold (R27). -/
theorem readStops_cons (l : List Byte) (hl : 2 ≤ l.length) :
    readStops l = if True then (readStops (l.drop 2)).map (stopAt l 0 :: ·) else none := by
  match l, hl with
  | a :: b :: rest, _ =>
    have hb : stopAt (a :: b :: rest) 0 = ⟨a.toNat, b⟩ := congrArg (StopEntry.mk a.toNat) (byte_eq_ofNat b).symm
    rw [readStops, if_true, hb]
    rfl

/-- The stop entries in range (R27): each on a line of the form with a set of classes 1 to 7, the lines ascending. -/
theorem stopsInRange_iff (length above : Nat) (es : List StopEntry) :
    stopsInRange length above es = true ↔
      (∀ e ∈ es, above < e.line ∧ e.line ≤ length ∧ e.classes ≠ 0 ∧ e.classes.getLsbD 0 = false) ∧
        es.Pairwise fun a b => a.line < b.line := by
  induction es generalizing above with
  | nil => simp [stopsInRange]
  | cons e es ih =>
    simp only [stopsInRange, Bool.and_eq_true, decide_eq_true_eq, Bool.not_eq_true', ih, List.forall_mem_cons,
      List.pairwise_cons]
    constructor
    · rintro ⟨⟨⟨⟨ha, hl⟩, hc⟩, h0⟩, hall, hp⟩
      exact ⟨⟨⟨ha, hl, hc, h0⟩, fun x hx => ⟨ha.trans (hall x hx).1, (hall x hx).2⟩⟩, fun x hx => (hall x hx).1, hp⟩
    · rintro ⟨⟨⟨ha, hl, hc, h0⟩, hall⟩, hlt, hp⟩
      exact ⟨⟨⟨⟨ha, hl⟩, hc⟩, h0⟩, fun x hx => ⟨hlt x hx, (hall x hx).2⟩, hp⟩

theorem stopAt_classes_ne (d : List Byte) (e : Nat) : (stopAt d e).classes ≠ 0 ↔ byteAt d (e + 1) ≠ 0 := by
  have := byteAt_lt d (e + 1)
  rw [Ne, byte_eq_iff]
  simp [stopAt, Nat.mod_eq_of_lt this]

theorem stopAt_classes_zero (d : List Byte) (e : Nat) : (stopAt d e).classes.getLsbD 0 = false ↔ byteAt d (e + 1) % 2 = 0 := by
  simp [stopAt, BitVec.getLsbD_ofNat, Nat.testBit_zero, -BitVec.getLsbD_eq_getElem]

/-- The stop entries of a FORM LOAD in range, by their places (R27). -/
theorem stopsInRange_stopAt (d : List Byte) (length k : Nat) :
    stopsInRange length 0 ((List.range k).map fun j => stopAt d (6 + 2 * j)) = true ↔
      ∀ j < k, 1 ≤ byteAt d (6 + 2 * j) ∧ byteAt d (6 + 2 * j) ≤ length ∧ byteAt d (7 + 2 * j) ≠ 0 ∧
        byteAt d (7 + 2 * j) % 2 = 0 ∧ ∀ i < j, byteAt d (6 + 2 * i) < byteAt d (6 + 2 * j) := by
  have hpair : ((List.range k).map fun j => stopAt d (6 + 2 * j)).Pairwise (fun a b => a.line < b.line) ↔
      ∀ j < k, ∀ i < j, byteAt d (6 + 2 * i) < byteAt d (6 + 2 * j) := by
    rw [List.pairwise_iff_getElem]
    simp only [List.length_map, List.length_range, List.getElem_map, List.getElem_range, stopAt]
    exact ⟨fun h j hj i hi => h i j (hi.trans hj) hj hi, fun h i j _ hj hij => h j hj i hij⟩
  have hplace : ∀ j, 7 + 2 * j = 6 + 2 * j + 1 := fun j => by omega
  rw [stopsInRange_iff, hpair]
  simp only [List.forall_mem_map, List.mem_range, stopAt_classes_ne, stopAt_classes_zero, hplace]
  exact ⟨fun ⟨h, hp⟩ j hj => ⟨(h j hj).1, (h j hj).2.1, (h j hj).2.2.1, (h j hj).2.2.2, hp j hj⟩,
    fun h => ⟨fun j hj => ⟨(h j hj).1, (h j hj).2.1, (h j hj).2.2.1, (h j hj).2.2.2.1⟩, fun j hj => (h j hj).2.2.2.2⟩⟩

/-! ### The readers of the controls -/

/-- A reader of the operands of the control with this code, for data whose first byte is the code: LENGTH, OPERAND RANGE, or the value
(R8 parts 3 and 4). -/
structure ReadsAs {α : Type} (code : Nat) (read : List Byte → Except Reason α) (value : List Byte → α) : Prop where
  length : ∀ d, requiredLength code d ≠ some d.length → read d = .error .length
  range : ∀ d, requiredLength code d = some d.length → ¬ OperandsInRange code d → read d = .error .operandRange
  value : ∀ d, requiredLength code d = some d.length → OperandsInRange code d → read d = .ok (value d)

/-- A reader that at the required length answers the value where the operands are in range and OPERAND RANGE otherwise. -/
theorem ReadsAs.of_if {α : Type} {code : Nat} {read : List Byte → Except Reason α} {value : List Byte → α}
    (hl : ∀ d, requiredLength code d ≠ some d.length → read d = .error .length)
    (hr : ∀ d, requiredLength code d = some d.length → ∃ (P : Prop) (_ : Decidable P), (OperandsInRange code d ↔ P) ∧
      read d = if P then .ok (value d) else .error .operandRange) : ReadsAs code read value where
  length := hl
  range d h hn := by
    obtain ⟨P, _, hP, e⟩ := hr d h
    rw [e, if_neg (hP.not.1 hn)]
  value d h hp := by
    obtain ⟨P, _, hP, e⟩ := hr d h
    rw [e, if_pos (hP.1 hp)]

/-- A control that is its code alone. -/
theorem readNone_readsAs {code : Nat} (hl : ∀ d, requiredLength code d = some 1) (hr : ∀ d, OperandsInRange code d) :
    ReadsAs code readNone fun _ => () where
  length d h := by
    rw [hl] at h
    exact if_neg fun e => h (congrArg some e.symm)
  range d _ h := absurd (hr d) h
  value d h _ := by
    rw [hl] at h
    exact if_pos (Option.some.inj h).symm

theorem readOverlayEnd_readsAs : ReadsAs 0x28 readOverlayEnd (queuedBody 0x28) where
  length d h := by
    have := (readNone_readsAs (code := 0x28) (fun _ => rfl) fun _ => trivial).length d h
    simp [readOverlayEnd, this]
  range d _ h := absurd trivial h
  value d h hr := by
    have := (readNone_readsAs (code := 0x28) (fun _ => rfl) fun _ => trivial).value d h hr
    simp [readOverlayEnd, this, queuedBody]

/-- The operands a STREAM OPEN carries, brought into range (R16). -/
def openOperandsAt (d : List Byte) : OpenOperands where
  quota := max 16 (min (wordAt d 1) 2048)
  composerPriority := Fin.ofNat 4 (min (byteAt d 3) 3)
  imagingPriority := Fin.ofNat 4 (min (byteAt d 4) 3)
  pageAgeLimit := byteAt d 5
  eventMask := .ofFn fun k => (65536 * byteAt d 6 + wordAt d 7).testBit (23 - k.val)

/-- STREAM OPEN (R16): all its operands clamp. -/
theorem readOpen_readsAs : ReadsAs 0x02 readOpen openOperandsAt where
  length d h := by
    unfold readOpen
    split
    · exact absurd rfl h
    · rfl
  range d _ h := absurd trivial h
  value d h _ := by
    match d, h with
    | [_, q1, q0, cp, ip, age, m2, m1, m0], _ =>
      have hmask : (m2 ++ m1 ++ m0 : BitVec 24).toNat = 65536 * m2.toNat + (256 * m1.toNat + m0.toNat) := by
        have h1 := num16_eq m2 m1
        simp only [num16, word16] at h1
        rw [BitVec.toNat_append, h1, Nat.shiftLeft_eq, Nat.mul_comm, ← Nat.two_pow_add_eq_or_of_lt m0.isLt]
        ring
      have hbit : readMask m2 m1 m0 = .ofFn fun k => (65536 * m2.toNat + (256 * m1.toNat + m0.toNat)).testBit (23 - k.val) := by
        unfold readMask
        congr 1
        funext k
        have := k.isLt
        rw [← hmask, BitVec.testBit_toNat, BitVec.getMsbD, decide_eq_true (by omega), Bool.true_and]
      simp only [readOpen, hbit, num16_eq]
      rfl

/-- FORM LOAD (R27). -/
theorem readFormLoad_readsAs : ReadsAs 0x05 readFormLoad fun d => (Fin.ofNat 4 (byteAt d 1), formAt d) := by
  refine .of_if (fun d h => ?_) fun d h => ?_
  · unfold readFormLoad
    split
    · next k rest => exact if_pos fun e => h (by simp [requiredLength, e, Nat.add_comm 6])
    · rfl
  · match d, h with
    | c :: f :: l :: p :: o :: k :: rest, h =>
      have hrest : rest.length = 2 * k.toNat := by simp [requiredLength] at h; omega
      have hlen : (c :: f :: l :: p :: o :: k :: rest).length = 6 + 2 * k.toNat := by simp [hrest]; omega
      have hstops : readStops rest = some (formAt (c :: f :: l :: p :: o :: k :: rest)).stops := by
        refine (readEntries_drop_eq (m := 6) (InRange := fun _ _ => True) (by rfl) readStops_cons (fun _ _ _ => Iff.rfl)
          stopAt_drop hlen).trans (if_pos fun _ _ => trivial)
      have hpitch : pitchOf p = if p.toNat = 6 ∨ p.toNat = 8 then some (if p.toNat = 6 then .six else .eight) else none :=
        twoOf_eq p 0x06#8 0x08#8 _ _
      have hrange := stopsInRange_stopAt (c :: f :: l :: p :: o :: k :: rest) l.toNat k.toNat
      refine ⟨f.toNat ≤ 3 ∧ 12 ≤ l.toNat ∧ l.toNat ≤ 144 ∧ (p.toNat = 6 ∨ p.toNat = 8) ∧ 1 ≤ o.toNat ∧ o.toNat ≤ l.toNat ∧
        k.toNat ≤ 32 ∧ stopsInRange l.toNat 0 (formAt (c :: f :: l :: p :: o :: k :: rest)).stops = true, inferInstance, ?_, ?_⟩
      · exact ⟨fun ⟨h1, h2, h3, h4, h5, h6, h7, h8⟩ => ⟨h1, h2, h3, h4, h5, h6, h7, hrange.2 h8⟩,
          fun ⟨h1, h2, h3, h4, h5, h6, h7, h8⟩ => ⟨h1, h2, h3, h4, h5, h6, h7, hrange.1 h8⟩⟩
      · simp only [readFormLoad, hrest, ne_eq, not_true_eq_false, if_false, hstops, hpitch]
        by_cases hp : p.toNat = 6 ∨ p.toNat = 8
        · by_cases hf : f.toNat < 4
          · simp only [if_pos hp, dif_pos hf, fin_mk_eq_ofNat]
            exact if_congr ⟨fun ⟨h1, h2, h3, h4, h5, h6⟩ => ⟨by omega, h1, h2, hp, h3, h4, h5, h6⟩,
              fun ⟨_, h1, h2, _, h3, h4, h5, h6⟩ => ⟨h1, h2, h3, h4, h5, h6⟩⟩ rfl rfl
          · simp only [if_pos hp, dif_neg hf]
            exact (if_neg fun h => hf (by omega)).symm
        · simp only [if_neg hp]
          exact (if_neg fun ⟨_, _, _, h, _⟩ => hp h).symm

/-- FORM SELECT (R41). -/
theorem readFormSelect_readsAs : ReadsAs 0x06 readFormSelect fun d => ⟨Fin.ofNat 4 (byteAt d 1), byteAt d 2⟩ := by
  refine .of_if (fun d h => ?_) fun d h => ?_
  · unfold readFormSelect
    split
    · exact absurd rfl h
    · rfl
  · match d, h with
    | [_, f, w], _ =>
      refine ⟨f.toNat ≤ 3 ∧ 1 ≤ w.toNat ∧ w.toNat ≤ 160, inferInstance, Iff.rfl, ?_⟩
      unfold readFormSelect
      dsimp only
      by_cases hf : f.toNat < 4
      · have : f.toNat ≤ 3 := by omega
        simp only [hf, this, true_and, dif_pos, fin_mk_eq_ofNat]
        rfl
      · rw [dif_neg hf, if_neg (by omega)]

/-- PORT SET (R181). -/
theorem readPortSet_readsAs : ReadsAs 0x07 readPortSet fun d => decide (byteAt d 1 = 1) := by
  refine .of_if (fun d h => ?_) fun d h => ?_
  · unfold readPortSet
    split
    · exact absurd rfl h
    · rfl
  · match d, h with
    | [_, v], _ =>
      refine ⟨v.toNat ≤ 1, inferInstance, Iff.rfl, ?_⟩
      unfold readPortSet
      dsimp only
      by_cases h0 : v = 0x00#8
      · subst h0; rfl
      · by_cases h1 : v = 0x01#8
        · subst h1; rfl
        · rw [if_neg h0, if_neg h1, if_neg fun h => ?_]
          rw [byte_eq_iff] at h0 h1
          simp at h0 h1
          omega

/-- ENGINE SET (R152). -/
theorem readEngineSet_readsAs : ReadsAs 0x0A readEngineSet settingsAt := by
  refine .of_if (fun d h => ?_) fun d h => ?_
  · unfold readEngineSet
    split
    · exact absurd rfl h
    · rfl
  · match d, h with
    | [_, d, t, w1, w0, h1, h0, v1, v0, g1, g0, o, q], _ =>
      have hle : ∀ b : Byte, b.toNat = (0x00#8).toNat ∨ b.toNat = (0x01#8).toNat ↔ b.toNat ≤ 1 := fun b => by simp; omega
      have horder : bitOrderOf o = if o.toNat ≤ 1 then some (if o.toNat = 0 then .leftmostInMsb else .leftmostInLsb) else none :=
        (twoOf_eq o 0x00#8 0x01#8 _ _).trans (if_congr (hle o) rfl rfl)
      have hpol : polarityOf q = if q.toNat ≤ 1 then some (if q.toNat = 0 then .blackAsOne else .blackAsZero) else none :=
        (twoOf_eq q 0x00#8 0x01#8 _ _).trans (if_congr (hle q) rfl rfl)
      refine ⟨o.toNat ≤ 1 ∧ q.toNat ≤ 1, inferInstance, Iff.rfl, ?_⟩
      simp only [readEngineSet, horder, hpol, clampSheet, num16_eq]
      by_cases hall : o.toNat ≤ 1 ∧ q.toNat ≤ 1
      · rw [if_pos hall, if_pos hall.1, if_pos hall.2]
        rfl
      · rw [if_neg hall]
        split
        · next h1 h2 => exact absurd ⟨of_ite_some h1, of_ite_some h2⟩ hall
        · rfl

/-- PAIR CLEAR (R54). -/
theorem readPairClear_readsAs : ReadsAs 0x23 readPairClear (queuedBody 0x23) := by
  refine .of_if (fun d h => ?_) fun d h => ?_
  · unfold readPairClear
    split
    · exact absurd rfl h
    · rfl
  · match d, h with
    | [_, set], _ =>
      refine ⟨set.toNat ≤ 1, inferInstance, Iff.rfl, ?_⟩
      by_cases h : set.toNat ≤ 1
      · simp only [readPairClear, tableSetOf_eq, if_pos h]
        rfl
      · simp only [readPairClear, tableSetOf_eq, if_neg h]

/-- GEOMETRY LOAD (R109). -/
theorem readGeometryLoad_readsAs : ReadsAs 0x24 readGeometryLoad (queuedBody 0x24) := by
  refine .of_if (fun d h => ?_) fun d h => ?_
  · unfold readGeometryLoad
    split
    · exact absurd rfl h
    · rfl
  · match d, h with
    | [_, n, a1, a0, b1, b0, c1, c0, d1, d0], _ =>
      refine ⟨n.toNat ≤ 7 ∧ 256 * a1.toNat + a0.toNat ≤ 3299 ∧ 256 * b1.toNat + b0.toNat ≤ 5099 ∧ 1 ≤ 256 * c1.toNat + c0.toNat ∧
        256 * c1.toNat + c0.toNat ≤ 3300 ∧ 1 ≤ 256 * d1.toNat + d0.toNat ∧ 256 * d1.toNat + d0.toNat ≤ 5100,
        inferInstance, Iff.rfl, ?_⟩
      by_cases hn : n.toNat ≤ 7
      · simp only [readGeometryLoad, eightOf_eq, num16_eq, hn, true_and, if_true]
        rfl
      · simp only [readGeometryLoad, eightOf_eq, hn, false_and, if_false]

/-- OVERLAY BEGIN (R124). -/
theorem readOverlayBegin_readsAs : ReadsAs 0x26 readOverlayBegin (queuedBody 0x26) := by
  refine .of_if (fun d h => ?_) fun d h => ?_
  · unfold readOverlayBegin
    split
    · exact absurd rfl h
    · rfl
  · match d, h with
    | [_, k, d1, d0], _ =>
      refine ⟨k.toNat ≤ 7 ∧ 1 ≤ 256 * d1.toNat + d0.toNat ∧ 256 * d1.toNat + d0.toNat ≤ 256, inferInstance, Iff.rfl, ?_⟩
      simp only [readOverlayBegin, eightOf_eq, num16_eq]
      by_cases hk : k.toNat ≤ 7
      · simp only [hk, true_and, if_true]
        rfl
      · simp only [hk, false_and, if_false]

/-- XLATE LOAD (R50). -/
theorem readXlateLoad_readsAs : ReadsAs 0x21 readXlateLoad (queuedBody 0x21) := by
  refine .of_if (fun d h => ?_) fun d h => ?_
  · unfold readXlateLoad
    split
    · next k rest => exact if_pos fun e => h (by simp [requiredLength, e, Nat.add_comm 4])
    · rfl
  · match d, h with
    | c :: set :: first :: k :: rest, h =>
      have hrest : rest.length = 3 * k.toNat := by simp [requiredLength] at h; omega
      have hlen : (c :: set :: first :: k :: rest).length = 4 + 3 * k.toNat := by simp [hrest]; omega
      have hentries : readXlateEntries rest = _ :=
        readEntries_drop_eq (m := 4) (by rfl) readXlateEntries_cons xlateInRange_drop xlateAt_drop hlen
      refine ⟨set.toNat ≤ 1 ∧ 1 ≤ k.toNat ∧ k.toNat ≤ 60 ∧ first.toNat + k.toNat ≤ 256 ∧
        ∀ j < k.toNat, XlateInRange (c :: set :: first :: k :: rest) (4 + 3 * j), inferInstance, Iff.rfl, ?_⟩
      simp only [readXlateLoad, hrest, ne_eq, not_true_eq_false, if_false, tableSetOf_eq, hentries]
      by_cases hset : set.toNat ≤ 1
      · by_cases he : ∀ j < k.toNat, XlateInRange (c :: set :: first :: k :: rest) (4 + 3 * j)
        · simp only [if_pos hset, if_pos he]
          exact if_congr ⟨fun ⟨h1, h2, h3⟩ => ⟨hset, h1, h2, by omega, he⟩, fun ⟨_, h1, h2, h3, _⟩ => ⟨h1, h2, by omega⟩⟩ rfl rfl
        · simp only [if_pos hset, if_neg he]
          exact (if_neg fun h => he h.2.2.2.2).symm
      · simp only [if_neg hset]
        exact (if_neg fun h => hset h.1).symm

/-- PAIR LOAD (R52). -/
theorem readPairLoad_readsAs : ReadsAs 0x22 readPairLoad (queuedBody 0x22) := by
  refine .of_if (fun d h => ?_) fun d h => ?_
  · unfold readPairLoad
    split
    · next k rest => exact if_pos fun e => h (by simp [requiredLength, e, Nat.add_comm 3])
    · rfl
  · match d, h with
    | c :: set :: k :: rest, h =>
      have hrest : rest.length = 5 * k.toNat := by simp [requiredLength] at h; omega
      have hlen : (c :: set :: k :: rest).length = 3 + 5 * k.toNat := by simp [hrest]; omega
      have hentries : readPairEntries rest = _ :=
        readEntries_drop_eq (m := 3) (by rfl) readPairEntries_cons pairInRange_drop pairAt_drop hlen
      refine ⟨set.toNat ≤ 1 ∧ 1 ≤ k.toNat ∧ k.toNat ≤ 40 ∧ ∀ j < k.toNat, PairInRange (c :: set :: k :: rest) (3 + 5 * j),
        inferInstance, Iff.rfl, ?_⟩
      simp only [readPairLoad, hrest, ne_eq, not_true_eq_false, if_false, tableSetOf_eq, hentries]
      by_cases hset : set.toNat ≤ 1
      · by_cases he : ∀ j < k.toNat, PairInRange (c :: set :: k :: rest) (3 + 5 * j)
        · simp only [if_pos hset, if_pos he]
          exact if_congr ⟨fun ⟨h1, h2⟩ => ⟨hset, h1, h2, he⟩, fun ⟨_, h1, h2, _⟩ => ⟨h1, h2⟩⟩ rfl rfl
        · simp only [if_pos hset, if_neg he]
          exact (if_neg fun h => he h.2.2.2).symm
      · simp only [if_neg hset]
        exact (if_neg fun h => hset h.1).symm

/-- OVERLAY ENTRIES (R125). -/
theorem readOverlayEntries_readsAs : ReadsAs 0x27 readOverlayEntries (queuedBody 0x27) := by
  refine .of_if (fun d h => ?_) fun d h => ?_
  · unfold readOverlayEntries
    split
    · next k rest => exact if_pos fun e => h (by simp [requiredLength, e, Nat.add_comm 2])
    · rfl
  · match d, h with
    | c :: k :: rest, h =>
      have hrest : rest.length = 12 * k.toNat := by simp [requiredLength] at h; omega
      have hlen : (c :: k :: rest).length = 2 + 12 * k.toNat := by simp [hrest]; omega
      have hentries : readOverlayList rest = _ :=
        readEntries_drop_eq (m := 2) (by rfl) readOverlayList_cons overlayInRange_drop overlayAt_drop hlen
      refine ⟨1 ≤ k.toNat ∧ k.toNat ≤ 16 ∧ ∀ j < k.toNat, OverlayInRange (c :: k :: rest) (2 + 12 * j), inferInstance, Iff.rfl, ?_⟩
      simp only [readOverlayEntries, hrest, ne_eq, not_true_eq_false, if_false, hentries]
      by_cases he : ∀ j < k.toNat, OverlayInRange (c :: k :: rest) (2 + 12 * j)
      · simp only [if_pos he]
        exact if_congr ⟨fun ⟨h1, h2⟩ => ⟨h1, h2, he⟩, fun ⟨h1, h2, _⟩ => ⟨h1, h2⟩⟩ rfl rfl
      · simp only [if_neg he]
        exact (if_neg fun ⟨_, _, h⟩ => he h).symm

/-- STREAM SET (R15). -/
theorem readStreamSet_readsAs : ReadsAs 0x25 readStreamSet (queuedBody 0x25) := by
  refine .of_if (fun d h => ?_) fun d h => ?_
  · unfold readStreamSet
    split
    · exact absurd rfl h
    · rfl
  · match d, h with
    | [_, ts, ge, ov, tr, st, co, bf], _ =>
      have htray : trayOf tr = if tr.toNat = 1 ∨ tr.toNat = 2 then some (if tr.toNat = 1 then .one else .two) else none :=
        twoOf_eq tr 0x01#8 0x02#8 _ _
      have hstacker : stackerOf st = if st.toNat = 1 ∨ st.toNat = 2 then some (if st.toNat = 1 then .one else .two) else none :=
        twoOf_eq st 0x01#8 0x02#8 _ _
      have hblank : blankFormsOf bf = if bf.toNat ≤ 1 then some (if bf.toNat = 0 then .discard else .print) else none := by
        refine (twoOf_eq bf 0x00#8 0x01#8 _ _).trans (if_congr ?_ rfl rfl)
        simp; omega
      refine ⟨ts.toNat ≤ 1 ∧ ge.toNat ≤ 7 ∧ (ov.toNat ≤ 7 ∨ ov.toNat = 255) ∧ (tr.toNat = 1 ∨ tr.toNat = 2) ∧
        (st.toNat = 1 ∨ st.toNat = 2) ∧ bf.toNat ≤ 1, inferInstance, Iff.rfl, ?_⟩
      simp only [readStreamSet, tableSetOf_eq, eightOf_eq, overlayOf_eq, htray, hstacker, hblank]
      by_cases hall : ts.toNat ≤ 1 ∧ ge.toNat ≤ 7 ∧ (ov.toNat ≤ 7 ∨ ov.toNat = 255) ∧ (tr.toNat = 1 ∨ tr.toNat = 2) ∧
          (st.toNat = 1 ∨ st.toNat = 2) ∧ bf.toNat ≤ 1
      · obtain ⟨h1, h2, h3, h4, h5, h6⟩ := id hall
        rw [if_pos hall, if_pos h1, if_pos h2, if_pos h3, if_pos h4, if_pos h5, if_pos h6]
        rfl
      · rw [if_neg hall]
        split
        · next h1 h2 h3 h4 h5 h6 =>
          exact absurd ⟨of_ite_some h1, of_ite_some h2, of_ite_some h3, of_ite_some h4, of_ite_some h5, of_ite_some h6⟩ hall
        · rfl

end Sys2Proof.Machine
end

section
/-! Control records at the gate (R8, R10, R15, R175): step 6 of R4 for every control, and what a queued control puts in its queue. -/

namespace Sys2Proof.Machine

/-! ### A CONTROL record whose operands are refused -/

/-- The header of a CONTROL record without a carriage action. -/
abbrev controlHeader (i : StreamNo) (sync halt : Bool) (data : List Byte) : Header :=
  { stream := i, cls := .control, action := .none, sync := sync, halt := halt, data := data }

/-- Step 3 of R4 admits a CONTROL record on a stream bound to the port, and a STREAM OPEN on an unbound one (R6). -/
theorem bindingRefusal_control {s : State} {p : Port} {i : StreamNo} {data : List Byte}
    (h : (s.stream i).binding = some p ∨ (s.stream i).binding = none ∧ data.head? = some 0x02#8) :
    bindingRefusal s p i .control data = none := by
  rcases h with h | ⟨h, hd⟩
  · exact bindingRefusal_bound s p i _ _ h
  · simp [bindingRefusal, h, isStreamOpen, hd]

/-- A refusal beyond step 3 is counted where the stream is bound to the port (R10). -/
theorem State.refuse_control (s : State) (p : Port) (i : StreamNo) (carriage : Byte) (sync halt : Bool) (data : List Byte)
    {r : Reason} (hbusy : r ≠ .streamBusy) (hopen : r ≠ .streamNotOpen) :
    (s.lowerFrame p).refuse p (recordBytes 2 i carriage sync halt data) r
      = s.answeredRefused p (if (s.stream i).binding = some p then some i else none) r := by
  have hn : namedStream (recordBytes 2 i carriage sync halt data) = some i :=
    (congrArg streamOf (loNibble_recordByte .control i)).trans (streamOf_val i)
  rw [State.refuse, hn]
  by_cases hb : (s.stream i).binding = some p
  · rw [if_pos hb]
    exact congrArg (fun u : State => u.answer p (.refused r) false []) (if_pos (.inl hb))
  · rw [if_neg hb]
    exact congrArg (fun u : State => u.answer p (.refused r) false [])
      (if_neg fun h => h.elim hb fun h => h.elim hbusy hopen)

/-- The end event of a CONTROL record that passes the header and whose operands are refused. -/
theorem State.endEvent_control_refused {α : Type} {s : State} {row : Row} {p : Port} {operands : Header → Except Reason α}
    {rule : Header → α → State → Ruling} {i : StreamNo} {carriage : Byte} {sync halt : Bool} {data : List Byte} {r : Reason}
    (hb : (s.stream i).binding = some p ∨ (s.stream i).binding = none ∧ data.head? = some 0x02#8) (hc : carriage.toNat / 16 = 0)
    (hl : data.length ≤ 255) (hr : s.Received p (recordBytes 2 i carriage sync halt data)) (hf : row.fitsControl data = true)
    (ho : operands (controlHeader i sync halt data) = .error r) (hbusy : r ≠ .streamBusy) (hopen : r ≠ .streamNotOpen) :
    s.endEvent row p operands rule
      = s.answeredRefused p (if (s.stream i).binding = some p then some i else none) r := by
  have hh := checkHeader_recordBytes s p .control i carriage .none sync halt data hl (bindingRefusal_control hb) rfl
    (carriageFor_still .control carriage (by decide) hc)
  have hfit := (fits_recordBytes .control row i carriage sync halt data).trans hf
  rw [State.endEvent_header s row p _ rule _ _ hr hfit hh, ho]
  exact s.refuse_control p i carriage sync halt data hbusy hopen

theorem checkControl_code {α : Type} {code : Byte} {immediate : Bool} {operands : List Byte → Except Reason α} {h : Header}
    (hd : ∀ b ∈ h.data.head?, b ≠ code) : checkControl code immediate operands h = .error .controlInvalid := by
  unfold checkControl
  cases hdata : h.data with
  | nil => rfl
  | cons b rest => exact if_pos (hd b (by rw [hdata]; rfl))

theorem checkControl_flags {α : Type} {code : Byte} {operands : List Byte → Except Reason α} {h : Header}
    (hd : h.data.head? = some code) (hf : h.sync = true ∨ h.halt = true) :
    checkControl code true operands h = .error .classInvalid := by
  obtain ⟨rest, hdata⟩ := List.head?_eq_some_iff.1 hd
  unfold checkControl
  rw [hdata]
  simp [hf]

/-! ### Every control command (R174) -/

/-- A control command is the end event of its row, with its code and kind and a reader of its operands. -/
theorem exec_controlCommand {p : Port} {code : Nat} {immediate : Bool} {c : Instr}
    (hc : (code, immediate, c) ∈ controlCommands p) :
    ∃ (α : Type) (read : List Byte → Except Reason α) (rule : Header → α → State → Ruling),
      (∀ s, exec c s = .next (s.endEvent (rowOf c) p (checkControl (BitVec.ofNat 8 code) immediate read) rule)) ∧
      (code ≠ 0x01 → ∃ value, ReadsAs code read value) := by
  revert code immediate c
  suffices ∀ e ∈ controlCommands p, ∃ (α : Type) (read : List Byte → Except Reason α) (rule : Header → α → State → Ruling),
      (∀ s, exec e.2.2 s = .next (s.endEvent (rowOf e.2.2) p (checkControl (BitVec.ofNat 8 e.1) e.2.1 read) rule)) ∧
      (e.1 ≠ 0x01 → ∃ value, ReadsAs e.1 read value) from fun {code immediate c} hc => this (code, immediate, c) hc
  unfold controlCommands
  simp only [List.forall_mem_cons]
  exact ⟨⟨_, _, _, fun _ => rfl, fun h => absurd rfl h⟩, ⟨_, _, _, fun _ => rfl, fun h => absurd rfl h⟩,
    ⟨_, _, _, fun _ => rfl, fun h => absurd rfl h⟩, ⟨_, _, _, fun _ => rfl, fun _ => ⟨_, readOpen_readsAs⟩⟩,
    ⟨_, _, _, fun _ => rfl, fun _ => ⟨_, readNone_readsAs (fun _ => rfl) fun _ => trivial⟩⟩,
    ⟨_, _, _, fun _ => rfl, fun _ => ⟨_, readNone_readsAs (fun _ => rfl) fun _ => trivial⟩⟩,
    ⟨_, _, _, fun _ => rfl, fun _ => ⟨_, readFormLoad_readsAs⟩⟩, ⟨_, _, _, fun _ => rfl, fun _ => ⟨_, readFormSelect_readsAs⟩⟩,
    ⟨_, _, _, fun _ => rfl, fun _ => ⟨_, readPortSet_readsAs⟩⟩,
    ⟨_, _, _, fun _ => rfl, fun _ => ⟨_, readNone_readsAs (fun _ => rfl) fun _ => trivial⟩⟩,
    ⟨_, _, _, fun _ => rfl, fun _ => ⟨_, readNone_readsAs (fun _ => rfl) fun _ => trivial⟩⟩,
    ⟨_, _, _, fun _ => rfl, fun _ => ⟨_, readEngineSet_readsAs⟩⟩, ⟨_, _, _, fun _ => rfl, fun _ => ⟨_, readXlateLoad_readsAs⟩⟩,
    ⟨_, _, _, fun _ => rfl, fun _ => ⟨_, readPairLoad_readsAs⟩⟩, ⟨_, _, _, fun _ => rfl, fun _ => ⟨_, readPairClear_readsAs⟩⟩,
    ⟨_, _, _, fun _ => rfl, fun _ => ⟨_, readGeometryLoad_readsAs⟩⟩, ⟨_, _, _, fun _ => rfl, fun _ => ⟨_, readStreamSet_readsAs⟩⟩,
    ⟨_, _, _, fun _ => rfl, fun _ => ⟨_, readOverlayBegin_readsAs⟩⟩,
    ⟨_, _, _, fun _ => rfl, fun _ => ⟨_, readOverlayEntries_readsAs⟩⟩,
    ⟨_, _, _, fun _ => rfl, fun _ => ⟨_, readOverlayEnd_readsAs⟩⟩, List.forall_mem_nil _⟩

/-- The codes of the control commands are the known ones (R174). -/
theorem controlCommands_code {p : Port} {code : Nat} {immediate : Bool} {c : Instr}
    (hc : (code, immediate, c) ∈ controlCommands p) : 0x01 ≤ code ∧ code ≤ 0x0A ∨ 0x21 ≤ code ∧ code ≤ 0x28 := by
  have : ∀ e ∈ controlCommands p, 0x01 ≤ e.1 ∧ e.1 ≤ 0x0A ∨ 0x21 ≤ e.1 ∧ e.1 ≤ 0x28 := by cases p <;> decide
  exact this _ hc

theorem controlCommands_row {p : Port} {code : Nat} {immediate : Bool} {c : Instr}
    (hc : (code, immediate, c) ∈ controlCommands p) : (rowOf c).hasCode code :=
  rowOf_hasCode (List.mem_map.2 ⟨_, hc, rfl⟩)

theorem Row.cls_of_hasCode {row : Row} {code : Nat} (h : row.hasCode code) : row.cls = .control := by
  cases row <;> trivial

/-- Data with its code missing or unknown fits every control's row (log entry 1). -/
theorem fitsControl_unknown {row : Row} {code : Nat} (h : row.hasCode code) {data : List Byte}
    (hd : ∀ b ∈ data.head?, ¬ knownCode b = true) : row.fitsControl data = true :=
  Row.fitsControl_of _ _ (Row.cls_of_hasCode h) fun b hb hk => absurd hk (hd b hb)

/-- Data that begins with the code of a control other than SENSE fits its row. -/
theorem fitsControl_own {row : Row} {code : Nat} (h : row.hasCode code) (h1 : code ≠ 0x01) (hlt : code < 256) {data : List Byte}
    (hd : data.head? = some (BitVec.ofNat 8 code)) : row.fitsControl data = true :=
  Row.fitsControl_of _ _ (Row.cls_of_hasCode h) fun b hb _ => by
    obtain rfl : BitVec.ofNat 8 code = b := Option.some.inj (hd.symm.trans hb)
    have hcode : (BitVec.ofNat 8 code).toNat = code := by simp [Nat.mod_eq_of_lt hlt]
    rw [hcode]
    exact ⟨h, fun k _ _ sel e => absurd (by rw [e] at h; exact h) h1⟩

/-- Settles O9. -/
theorem controlRecordsAreChecked : Obligations.ControlRecordsAreChecked := by
  unfold Obligations.ControlRecordsAreChecked
  intro s p code immediate c hmem i carriage sync halt data hb hc hl hr
  obtain ⟨α, read, rule, hexec, hreads⟩ := exec_controlCommand hmem
  have hcode := controlCommands_code hmem
  have hrow := controlCommands_row hmem
  simp only [hexec, Host.Outcome.next.injEq]
  refine ⟨fun hunknown => ?_, fun hhead h1 => ?_⟩
  · refine State.endEvent_control_refused hb hc hl hr (fitsControl_unknown hrow ?_) (checkControl_code ?_) nofun nofun
    · exact fun b hbd => (knownCode_iff b).not.2 (hunknown b hbd)
    · rintro b hbd rfl
      refine hunknown _ hbd ?_
      rwa [lengthByte code (by omega)]
  · have hfit := fitsControl_own hrow h1 (by omega) hhead
    obtain ⟨rest, rfl⟩ := List.head?_eq_some_iff.1 hhead
    obtain ⟨value, hreads⟩ := hreads h1
    refine ⟨fun himm hflags => ?_, fun hflags => ?_⟩
    · subst himm
      exact State.endEvent_control_refused hb hc hl hr hfit (checkControl_flags rfl hflags) nofun nofun
    · have hread := checkControl_ok (BitVec.ofNat 8 code) immediate read (controlHeader i sync halt _) rest rfl hflags
      refine ⟨fun hlen => ?_, fun hlen hrange => ?_⟩
      · exact State.endEvent_control_refused hb hc hl hr hfit (hread.trans (hreads.length _ hlen)) nofun nofun
      · exact State.endEvent_control_refused hb hc hl hr hfit (hread.trans (hreads.range _ hlen hrange)) nofun nofun

/-! ### SENSE (R175) -/

/-- The end event of a SENSE whose operands are refused, on a stream bound to the port. -/
theorem State.endEvent_sense_refused {α : Type} {s : State} {row : Row} {p : Port} {operands : Header → Except Reason α}
    {rule : Header → α → State → Ruling} {i : StreamNo} {carriage : Byte} {sync halt : Bool} {data : List Byte} {r : Reason}
    (h : s.ControlReceived p i carriage sync halt data) (hf : row.fitsControl data = true)
    (ho : operands (controlHeader i sync halt data) = .error r) (hbusy : r ≠ .streamBusy) (hopen : r ≠ .streamNotOpen) :
    s.endEvent row p operands rule = s.answeredRefused p (some i) r := by
  obtain ⟨hb, hc, hl, hr⟩ := h
  rw [State.endEvent_control_refused (.inl hb) hc hl hr hf ho hbusy hopen, if_pos hb]

/-- The three SENSE commands have the code 01h, and each the row of its selector. -/
theorem exec_senseCommand {p : Port} {selector : Nat} {c : Instr} (hc : (selector, c) ∈ senseCommands p) :
    ∃ (α : Type) (read : List Byte → Except Reason α) (rule : Header → α → State → Ruling),
      (∀ s, exec c s = .next (s.endEvent (.sense (BitVec.ofNat 8 selector)) p (checkControl 0x01#8 true read) rule)) ∧
      (∀ d r, senseSelector d = .error r → read d = .error r) ∧
      (selector = 2 → ∀ n : Byte, 7 < n.toNat → read [0x01#8, 0x02#8, n] = .error .operandRange) := by
  have hsense (sel : Byte) (d : List Byte) (r : Reason) (h : senseSelector d = .error r) : readSense sel d = .error r := by
    simp [readSense, h]
  have hstream (d : List Byte) (r : Reason) (h : senseSelector d = .error r) : readSenseStream d = .error r := by
    simp [readSenseStream, h]
  revert selector c
  suffices ∀ e ∈ senseCommands p, ∃ (α : Type) (read : List Byte → Except Reason α) (rule : Header → α → State → Ruling),
      (∀ s, exec e.2 s = .next (s.endEvent (.sense (BitVec.ofNat 8 e.1)) p (checkControl 0x01#8 true read) rule)) ∧
      (∀ d r, senseSelector d = .error r → read d = .error r) ∧
      (e.1 = 2 → ∀ n : Byte, 7 < n.toNat → read [0x01#8, 0x02#8, n] = .error .operandRange) from
    fun {selector c} hc => this (selector, c) hc
  unfold senseCommands
  simp only [List.forall_mem_cons]
  refine ⟨⟨_, _, _, fun _ => rfl, hsense _, nofun⟩,
    ⟨_, _, _, fun _ => rfl, hstream, fun _ n hn => ?_⟩,
    ⟨_, _, _, fun _ => rfl, hsense _, nofun⟩, List.forall_mem_nil _⟩
  have hout : streamOf n.toNat = none := dif_neg (by omega)
  simp [readSenseStream, senseSelector, hout]

/-- What a SENSE's length and selector give (R175): 2 bytes for DEVICE and MARK, 3 for STREAM, 2 or 3 for any other. -/
theorem senseSelector_eq (k : Byte) (more : List Byte) :
    senseSelector (0x01#8 :: k :: more) =
      if k.toNat = 2 then if more.length = 1 then .ok k else .error .length
      else if k.toNat = 1 ∨ k.toNat = 3 then if more.length = 0 then .ok k else .error .length
      else if more.length ≤ 1 then .error .operandRange else .error .length := by
  simp only [senseSelector, byte_eq_iff]
  rfl

/-- Settles O10. -/
theorem senseRecordsAreChecked : Obligations.SenseRecordsAreChecked := by
  unfold Obligations.SenseRecordsAreChecked
  intro s p selector c hmem i carriage sync halt rest hrec hsel
  obtain ⟨α, read, rule, hexec, herr, hstream⟩ := exec_senseCommand hmem
  have hselector : selector = 1 ∨ selector = 2 ∨ selector = 3 := by
    have : ∀ e ∈ senseCommands p, e.1 = 1 ∨ e.1 = 2 ∨ e.1 = 3 := by cases p <;> decide
    exact this _ hmem
  have hfit : (Row.sense (BitVec.ofNat 8 selector)).fitsControl (0x01#8 :: rest) = true := by
    refine Row.fitsControl_of _ _ rfl fun b hb _ => ?_
    obtain rfl : 0x01#8 = b := Option.some.inj hb
    refine ⟨rfl, fun k hk hknown sel e => ?_⟩
    obtain rfl : BitVec.ofNat 8 selector = sel := Row.sense.inj e
    simp only [knownSelector, decide_eq_true_eq] at hknown
    rcases hsel k (by simpa [List.head?_eq_getElem?] using hk) with h | h | h
    · rw [← h]; exact byte_eq_ofNat k
    · omega
    · omega
  simp only [hexec, Host.Outcome.next.injEq]
  refine ⟨fun hflags => State.endEvent_sense_refused hrec hfit (checkControl_flags rfl hflags) nofun nofun, ?_⟩
  rintro rfl rfl
  have hread := checkControl_ok 0x01#8 true read (controlHeader i false false (0x01#8 :: rest)) rest rfl fun _ => ⟨rfl, rfl⟩
  have hrefused {r : Reason} (h : read (0x01#8 :: rest) = .error r) (hbusy : r ≠ .streamBusy) (hopen : r ≠ .streamNotOpen) :
      s.endEvent (.sense (BitVec.ofNat 8 selector)) p (checkControl 0x01#8 true read) rule = s.answeredRefused p (some i) r :=
    State.endEvent_sense_refused hrec hfit (hread.trans h) hbusy hopen
  refine ⟨?_, ?_⟩
  · rintro rfl
    exact hrefused (herr _ _ rfl) nofun nofun
  · rintro k more rfl
    have hk := senseSelector_eq k more
    refine ⟨fun hown hlen => ?_, fun hne hlen => ?_, fun hne hlen => ?_, ?_⟩
    · refine hrefused (herr _ _ (hk.trans ?_)) nofun nofun
      rcases hselector with rfl | rfl | rfl
      · simp_all
      · simp_all
      · simp_all
    · refine hrefused (herr _ _ (hk.trans ?_)) nofun nofun
      have h1 : more.length ≠ 1 := by omega
      have h0 : more.length ≠ 0 := by omega
      have hle : ¬ more.length ≤ 1 := by omega
      simp only [if_neg h1, if_neg h0, if_neg hle, ite_self]
    · refine hrefused (herr _ _ (hk.trans ?_)) nofun nofun
      have hunknown : k.toNat = 0 ∨ 3 < k.toNat := (hsel k rfl).resolve_left hne
      have h2 : k.toNat ≠ 2 := by omega
      have h13 : ¬(k.toNat = 1 ∨ k.toNat = 3) := by omega
      rw [if_neg h2, if_neg h13, if_pos hlen]
    · rintro n hown rfl rfl hn
      obtain rfl : k = 0x02#8 := BitVec.eq_of_toNat_eq hown
      exact hrefused (hstream rfl n hn) nofun nofun

/-! ### Queued controls (R11, R15, R40) -/

/-- A queued control command reads what its bytes ask for and queues it. -/
theorem exec_queuedControl {p : Port} {code : Nat} {c : Instr} (hc : (code, false, c) ∈ controlCommands p) :
    ∃ read, (∀ s, exec c s = .next (s.endEvent (rowOf c) p (checkControl (BitVec.ofNat 8 code) false read) queueControl)) ∧
      ReadsAs code read (queuedBody code) := by
  revert code c
  suffices ∀ e ∈ controlCommands p, e.2.1 = false → ∃ read,
      (∀ s, exec e.2.2 s = .next (s.endEvent (rowOf e.2.2) p (checkControl (BitVec.ofNat 8 e.1) false read) queueControl)) ∧
      ReadsAs e.1 read (queuedBody e.1) from fun {code c} hc => this (code, false, c) hc rfl
  unfold controlCommands
  simp only [List.forall_mem_cons]
  exact ⟨nofun, nofun, nofun, nofun, nofun, nofun, nofun, nofun, nofun, nofun, nofun, nofun,
    fun _ => ⟨_, fun _ => rfl, readXlateLoad_readsAs⟩, fun _ => ⟨_, fun _ => rfl, readPairLoad_readsAs⟩,
    fun _ => ⟨_, fun _ => rfl, readPairClear_readsAs⟩, fun _ => ⟨_, fun _ => rfl, readGeometryLoad_readsAs⟩,
    fun _ => ⟨_, fun _ => rfl, readStreamSet_readsAs⟩, fun _ => ⟨_, fun _ => rfl, readOverlayBegin_readsAs⟩,
    fun _ => ⟨_, fun _ => rfl, readOverlayEntries_readsAs⟩, fun _ => ⟨_, fun _ => rfl, readOverlayEnd_readsAs⟩,
    List.forall_mem_nil _⟩

theorem queuedControl_code {p : Port} {code : Nat} {c : Instr} (hc : (code, false, c) ∈ controlCommands p) : code ≠ 0x01 := by
  have : ∀ e ∈ controlCommands p, e.2.1 = false → e.1 ≠ 0x01 := by cases p <;> decide
  exact this _ hc rfl

/-- Settles O15. -/
theorem queuedControlsAreReadAndQueued : Obligations.QueuedControlsAreReadAndQueued := by
  unfold Obligations.QueuedControlsAreReadAndQueued
  intro s p code c hmem i carriage sync halt rest data hrec hlen hrange
  obtain ⟨read, hexec, hreads⟩ := exec_queuedControl hmem
  have hcode := controlCommands_code hmem
  have hfit := fitsControl_own (controlCommands_row hmem) (queuedControl_code hmem) (by omega) (data := data) rfl
  rw [hexec, s.endEvent_bound_control _ p _ false read queueControl i carriage sync halt rest hrec hfit nofun,
    hreads.value _ hlen hrange, ← s.queued_still]
  unfold queueControl
  dsimp only
  by_cases hq : (s.lowerFrame p).holdsQueued i = true
  · rw [if_pos hq]
  · rw [if_neg hq]

end Sys2Proof.Machine
end

section
/-! Records the gate takes: PRINT, MARK and CLOSE (R11, R31, R39, R40), STREAM OPEN and STREAM RELEASE (R16 to R18). -/

namespace Sys2Proof.Machine

/-! ### PRINT, MARK and CLOSE -/

@[simp] theorem State.attention_lowerFrame (s : State) (p q : Port) : (s.lowerFrame p).attention q = s.attention q := by
  simp only [State.attention, State.lowerFrame, State.port_updPort]
  split <;> rfl

/-- A PRINT record is HELD on the grounds of a queued record, or under attention hold while attention is pending (R11, R181). -/
theorem State.holdsPrint_lowerFrame_iff (s : State) (p : Port) (i : StreamNo) :
    (s.lowerFrame p).holdsPrint p i = true ↔ s.QueueHolds i ∨ (s.port p).hold = true ∧ s.attention p = true := by
  have hhold : ((s.lowerFrame p).port p).hold = (s.port p).hold := by
    simp [State.lowerFrame]
  rw [State.holdsPrint, Bool.or_eq_true, Bool.and_eq_true, State.holdsQueued_lowerFrame, State.holdsQueued_iff,
    State.attention_lowerFrame, hhold]

/-- What a PRINT record that is taken does, in one update of its stream and two counts (R31, R9). -/
theorem State.takePrintRecord_eq (s : State) (i : StreamNo) (a : Action) (data : List Byte) (sync halt : Bool) :
    s.takePrintRecord i a data sync halt =
      let c := (s.stream i).carriage
      let m := ({ c with started := true } : Carriage).move s.forms a
      let r := s.stamped i (.print (data.take c.width)) a sync halt
      (((s.updStream i fun t => { t with queue := t.queue ++ [r], carriage := m.after }).countIf m.unresolved i
        .skipUnresolved).countIf (decide (c.width < data.length)) i .truncated, m.overflow) := by
  unfold State.takePrintRecord
  dsimp only
  rw [State.stamp_eq_stamped, State.enqueue, State.setCarriage, State.updStream_updStream]

/-- Settles O11. -/
theorem printRecordIsHeldOrTaken : Obligations.PrintRecordIsHeldOrTaken := by
  unfold Obligations.PrintRecordIsHeldOrTaken
  intro s p i carriage a sync halt data hb ha hl hr
  have hh := checkHeader_recordBytes s p .print i carriage a sync halt data hl (bindingRefusal_bound s p i _ _ hb) rfl
    (carriageFor_print carriage a ha)
  have hfit : Row.print.fits (recordBytes 1 i carriage sync halt data) = true := fits_recordBytes .print .print i carriage sync halt data
  have hend := State.endEvent_header s .print p readPrint (printRule p) _ _ hr hfit hh
  dsimp only [readPrint, printRule] at hend
  refine ⟨fun hheld => congrArg _ (hend.trans ?_), fun hfree => congrArg _ (hend.trans ?_)⟩
  · rw [if_pos ((s.holdsPrint_lowerFrame_iff p i).2 hheld)]
    rfl
  · rw [if_neg ((s.holdsPrint_lowerFrame_iff p i).not.2 hfree), State.takePrintRecord_eq]
    rfl

/-- The carriage after a CLOSE: at line 1 it stands; elsewhere a form boundary to line 1 (R37, R39). -/
theorem Carriage.close_eq (c : Carriage) :
    c.close = if c.line = 1 then c else
      { form := (c.pending.map Select.form).getD c.form, width := (c.pending.map Select.width).getD c.width
        pending := none, line := 1, sequence := c.sequence + 1, started := false } := by
  unfold Carriage.close Carriage.boundary
  split
  · rfl
  · cases c.pending <;> simp

theorem word16_eq_ofNat (hi lo : Byte) : word16 hi lo = BitVec.ofNat 16 (256 * hi.toNat + lo.toNat) := by
  rw [← num16_eq, num16, BitVec.ofNat_toNat, BitVec.setWidth_eq]

/-- The header of a MARK with its two bytes, or of a CLOSE without data, on a stream bound to the port. -/
theorem checkHeader_still (s : State) (p : Port) (c : Class) (i : StreamNo) (carriage : Byte) (sync halt : Bool) (data : List Byte)
    (hb : (s.stream i).binding = some p) (hc : carriage.toNat / 16 = 0) (hl : data.length ≤ 255) (hclass : c ≠ .print)
    (hlen : lengthRefusal c data = none) :
    checkHeader s p (recordBytes c.code i carriage sync halt data) false
      = .ok { stream := i, cls := c, action := .none, sync := sync, halt := halt, data := data } :=
  checkHeader_recordBytes s p c i carriage .none sync halt data hl (bindingRefusal_bound s p i _ _ hb) hlen
    (carriageFor_still c carriage hclass hc)

/-- An update of one stream is what it makes of that stream's record. -/
theorem State.updStream_congr {s : State} {i : StreamNo} {f g : Stream → Stream} (h : f (s.stream i) = g (s.stream i)) :
    s.updStream i f = s.updStream i g :=
  congrArg (fun t => { s with streams := s.streams.set i t }) h

/-- What a CLOSE record that is taken does, in one update of its stream (R39). -/
theorem State.takeCloseRecord_eq (s : State) (i : StreamNo) (sync halt : Bool) :
    s.takeCloseRecord i sync halt = s.updStream i fun t =>
      { t with
        queue := t.queue ++ [s.stamped i .close .none sync halt]
        carriage :=
          if t.carriage.line = 1 then t.carriage
          else
            { form := (t.carriage.pending.map Select.form).getD t.carriage.form
              width := (t.carriage.pending.map Select.width).getD t.carriage.width
              pending := none, line := 1, sequence := t.carriage.sequence + 1, started := false } } := by
  unfold State.takeCloseRecord
  dsimp only
  rw [State.stamp_eq_stamped, State.enqueue, State.setCarriage, State.updStream_updStream, Carriage.close_eq]
  exact State.updStream_congr rfl

/-- Settles O12. -/
theorem markAndCloseRecordsAreHeldOrTaken : Obligations.MarkAndCloseRecordsAreHeldOrTaken := by
  unfold Obligations.MarkAndCloseRecordsAreHeldOrTaken
  intro s p i carriage sync halt hb hc
  refine ⟨fun hi lo hr => ?_, fun hr => ?_⟩
  · have hend := s.endEvent_header .mark p readMark markRule _ _ hr (fits_recordBytes .mark .mark i carriage sync halt _)
      (checkHeader_still s p .mark i carriage sync halt [hi, lo] hb hc (by simp) nofun rfl)
    refine congrArg _ (hend.trans ?_)
    rw [← word16_eq_ofNat, ← s.queued_still]
    dsimp only [readMark, markRule]
    by_cases hq : (s.lowerFrame p).holdsQueued i = true
    · rw [if_pos hq]
    · rw [if_neg hq]
  · have hend := s.endEvent_header .close p readClose closeRule _ _ hr (fits_recordBytes .close .close i carriage sync halt _)
      (checkHeader_still s p .close i carriage sync halt [] hb hc (by simp) nofun rfl)
    have hholds : (s.lowerFrame p).holdsQueued i = true ↔ s.QueueHolds i := s.holdsQueued_iff i
    dsimp only [readClose, closeRule] at hend
    refine ⟨fun hheld => congrArg _ (hend.trans ?_), fun hfree => congrArg _ (hend.trans ?_)⟩
    · rw [if_pos (hholds.2 hheld)]
      rfl
    · rw [if_neg (hholds.not.2 hfree)]
      rw [State.takeCloseRecord_eq]
      rfl

/-! ### STREAM OPEN and STREAM RELEASE -/

/-- A STREAM OPEN of nine bytes: the rule decides by the binding and by what the stream still holds (R16, R17). -/
theorem exec_streamOpen {s : State} {p : Port} {i : StreamNo} {carriage : Byte} {rest : List Byte}
    (hb : (s.stream i).binding = none ∨ (s.stream i).binding = some p) (hc : carriage.toNat / 16 = 0) (hlen : rest.length = 8)
    (hr : s.Received p (recordBytes 2 i carriage false false (0x02#8 :: rest))) :
    exec (.streamOpen p) s = .next (match streamOpenRule p i (openOperandsAt (0x02#8 :: rest)) (s.lowerFrame p) with
      | .refused r => (s.lowerFrame p).refuse p (recordBytes 2 i carriage false false (0x02#8 :: rest)) r
      | .held => (s.lowerFrame p).answer p .held false []
      | .taken after overflow frames => (after.countTaken i).answer p .taken overflow frames) := by
  have hadmit : bindingRefusal s p i .control (0x02#8 :: rest) = none :=
    bindingRefusal_control (hb.symm.imp_right fun h => ⟨h, rfl⟩)
  have hread := readOpen_readsAs.value (0x02#8 :: rest) (by simp [requiredLength, hlen]) trivial
  have hend := s.endEvent_control (.control 0x02#8) p 0x02#8 true readOpen (fun h o u => streamOpenRule p h.stream o u) i carriage
    false false rest hadmit hc (by simp [hlen]) hr (fitsControl_code _ _) fun _ => ⟨rfl, rfl⟩
  rw [hread] at hend
  exact congrArg _ hend

/-- A first open (R16): refused while a page of the stream is in the store. -/
theorem streamOpenRule_unbound {s : State} {p : Port} {i : StreamNo} (o : OpenOperands) (hb : (s.stream i).binding = none) :
    streamOpenRule p i o s =
      if s.pagesOf i ≠ [] then .refused .streamActive else .taken (s.updStream i fun t => t.firstOpen p o) false [] := by
  unfold streamOpenRule
  rw [hb]

/-- A re-open (R17): refused where the quota is below the queue count. -/
theorem streamOpenRule_bound {s : State} {p q : Port} {i : StreamNo} (o : OpenOperands) (hb : (s.stream i).binding = some q) :
    streamOpenRule p i o s =
      if o.quota < s.queueCount i then .refused .operandRange else .taken (s.updStream i fun t => t.reopen o) false [] := by
  unfold streamOpenRule
  rw [hb]

theorem State.pagesOf_ne_nil_iff (s : State) (i : StreamNo) : s.pagesOf i ≠ [] ↔ ∃ q ∈ s.pages, q.stream = i := by
  simp [State.pagesOf, List.filter_eq_nil_iff]

/-- The work of R18, ground by ground. -/
theorem State.active_iff (s : State) (i : StreamNo) :
    s.active i = true ↔ (s.stream i).queue ≠ [] ∨ (s.stream i).buffer ≠ none ∨ (∃ q ∈ s.pages, q.stream = i) ∨
      (s.stream i).wait ≠ .none ∨ ∃ k : Fin 8, (s.slot k).state = .loading i := by
  have hload : (s.openLoad i).isSome = true ↔ ∃ k : Fin 8, (s.slot k).state = .loading i := by
    rw [← Option.ne_none_iff_isSome, Ne, (s.openLoad_spec i).1]
    simp
  simp only [State.active, Bool.or_eq_true, decide_eq_true_eq, hload, State.pagesOf_ne_nil_iff, Option.isSome_iff_ne_none, or_assoc]

/-- Settles O18. -/
theorem streamOpenAndRelease : Obligations.StreamOpenAndRelease := by
  unfold Obligations.StreamOpenAndRelease
  constructor
  · intro s p i carriage rest data hc hlen hr
    refine ⟨fun hb hpage => ?_, fun hb hpage => ?_, fun hb hq => ?_, fun hb hq => ?_⟩
    · have hne : (s.lowerFrame p).pagesOf i ≠ [] := (State.pagesOf_ne_nil_iff _ i).2 hpage
      rw [exec_streamOpen (.inl hb) hc hlen hr, streamOpenRule_unbound (s := s.lowerFrame p) _ hb, if_pos hne]
      dsimp only
      rw [s.refuse_control p i carriage false false _ (r := .streamActive) nofun nofun, hb]
      rfl
    · have hnil : ¬ (s.lowerFrame p).pagesOf i ≠ [] := fun h =>
        let ⟨q, hq, e⟩ := (State.pagesOf_ne_nil_iff _ i).1 h
        hpage q hq e
      rw [exec_streamOpen (.inl hb) hc hlen hr, streamOpenRule_unbound (s := s.lowerFrame p) _ hb, if_neg hnil]
      rfl
    · have hquota : (openOperandsAt data).quota < (s.lowerFrame p).queueCount i := hq
      rw [exec_streamOpen (.inr hb) hc hlen hr, streamOpenRule_bound (s := s.lowerFrame p) _ hb, if_pos hquota]
      dsimp only
      rw [s.refuse_control p i carriage false false _ (r := .operandRange) nofun nofun, if_pos hb]
    · have hquota : ¬ (openOperandsAt data).quota < (s.lowerFrame p).queueCount i := Nat.not_lt.2 hq
      rw [exec_streamOpen (.inr hb) hc hlen hr, streamOpenRule_bound (s := s.lowerFrame p) _ hb, if_neg hquota]
      rfl
  · intro s p i carriage hrec busy
    have hend := s.endEvent_bound_control (.control 0x03#8) p 0x03#8 true readNone (fun h _ u => streamReleaseRule h.stream u) i
      carriage false false [] hrec (fitsControl_code _ _) fun _ => ⟨rfl, rfl⟩
    have hactive : (s.lowerFrame p).active i = true ↔ busy := State.active_iff _ i
    refine ⟨fun hbusy => congrArg _ (hend.trans ?_), fun hidle => congrArg _ (hend.trans ?_)⟩
    · simp only [readNone, List.length_singleton, if_true, streamReleaseRule, if_pos (hactive.2 hbusy)]
    · simp only [readNone, List.length_singleton, if_true, streamReleaseRule, if_neg (hactive.not.2 hidle)]
      rfl

end Sys2Proof.Machine
end

section
/-! The sense frames (R176, R178, R183), byte by byte. -/

namespace Sys2Proof.Machine

/-! ### Bytes of a frame -/

theorem byte1_toNat (n : Nat) : (byte1 n).toNat = n % 256 := by simp [byte1]

theorem byte1_toNat_of_lt {n : Nat} (h : n < 256) : (byte1 n).toNat = n := by
  rw [byte1_toNat, Nat.mod_eq_of_lt h]

/-- The two bytes of a number, read back (R183). -/
theorem byte2_toNat (n : Nat) : 256 * (byte1 (n / 256)).toNat + (byte1 n).toNat = n % 65536 := by
  simp only [byte1_toNat]
  omega

/-- The four bytes of a number, read back (R183). -/
theorem byte4_toNat (n : Nat) :
    65536 * (256 * (byte1 (n / 16777216)).toNat + (byte1 (n / 65536)).toNat) + (256 * (byte1 (n / 256)).toNat + (byte1 n).toNat)
      = n % 4294967296 := by
  simp only [byte1_toNat]
  omega

theorem byteAt_replicate_zero (n k : Nat) : byteAt (List.replicate n 0#8) k = 0 := by
  simp only [byteAt, List.getElem?_replicate]
  split <;> rfl

/-- The bytes of a frame from a place on are 0 where only zeros are sent from there. -/
theorem byteAt_eq_zero_of_drop {f : List Byte} {m n : Nat} (h : f.drop m = List.replicate n 0#8) {k : Nat} (hk : m ≤ k) :
    byteAt f k = 0 := by
  rw [show k = m + (k - m) by omega, ← byteAt_drop, h, byteAt_replicate_zero]

theorem bitSet_lt (l : List Bool) : bitSet l < 2 ^ l.length := by
  induction l with
  | nil => simp [bitSet]
  | cons b l ih =>
    have := b.toNat_lt
    simp only [bitSet, List.length_cons, Nat.pow_succ]
    omega

theorem bitSet_testBit (l : List Bool) (k : Nat) : (bitSet l).testBit k = l[k]?.getD false := by
  induction l generalizing k with
  | nil => simp [bitSet]
  | cons b l ih =>
    cases k with
    | zero =>
      cases b <;> simp [bitSet, Nat.testBit_zero]
    | succ k =>
      have hdiv : (b.toNat + 2 * bitSet l) / 2 = bitSet l := by
        have := b.toNat_lt
        omega
      simp [bitSet, Nat.testBit_succ, hdiv, ih]

/-- A set of numbered bits sent as a byte shows each bit at its number. -/
theorem byte1_bitSet_testBit {n : Nat} (b : Bank Bool n) (hn : n ≤ 8) (k : Fin n) :
    (byte1 (bitSet b.items)).toNat.testBit k.val = b.get k := by
  have hlt : bitSet b.items < 256 := by
    refine (bitSet_lt b.items).trans_le ?_
    rw [b.size]
    exact Nat.pow_le_pow_right (by decide) hn
  rw [byte1_toNat_of_lt hlt, bitSet_testBit, List.getElem?_eq_getElem (by rw [b.size]; exact k.isLt)]
  rfl

/-! ### The DEVICE frame -/

/-- The lowering of FRAME is not seen in a port's frame. -/
theorem State.deviceFrame_lowerFrame (s : State) (p : Port) : (s.lowerFrame p).deviceFrame p = s.deviceFrame p := by
  have hport : (s.lowerFrame p).port p = { s.port p with frame := false } := State.port_updPort_self s p _
  unfold State.deviceFrame
  rw [hport]
  rfl

theorem State.outstanding_lt (s : State) : s.outstanding < 16 := (s.issue - s.confirm).isLt

theorem RunState.code_lt (r : RunState) : r.code < 4 := by cases r <;> decide

theorem Cause.code_lt (c : Cause) : c.code < 9 := by cases c <;> decide

theorem bindingCode_lt (b : Option Port) : bindingCode b < 3 := by
  match b with
  | none => decide
  | some .a => decide
  | some .b => decide

theorem Wait.code_lt (w : Wait) : w.code < 5 := by cases w <;> simp [Wait.code]

/-- A stream's summary byte in its three fields. -/
theorem State.summary_toNat (s : State) (j : StreamNo) :
    (s.summary j).toNat
      = 64 * bindingCode (s.stream j).binding + 8 * (s.stream j).wait.code + 4 * (s.openPage j).isSome.toNat := by
  have := bindingCode_lt (s.stream j).binding
  have := (s.stream j).wait.code_lt
  have := (s.openPage j).isSome.toNat_lt
  refine (byte1_toNat_of_lt (by omega)).trans ?_
  omega

/-- The end event of a SENSE DEVICE (R176). -/
theorem exec_senseDevice {s : State} {p : Port} {i : StreamNo} {carriage : Byte}
    (h : s.ControlReceived p i carriage false false [0x01#8, 0x01#8]) :
    exec (.senseDevice p) s = .next (s.answeredTaken p i
      (fun u => u.updPort p fun q => { q with causes := Causes.empty, deviceSet := .replicate 7 false }) false (s.deviceFrame p)) := by
  have hend := s.endEvent_bound_control (.sense 0x01#8) p 0x01#8 true (readSense 0x01#8) (fun _ _ u => senseDeviceRule p u) i
    carriage false false [0x01#8] h rfl fun _ => ⟨rfl, rfl⟩
  refine congrArg _ (hend.trans ?_)
  rw [← s.deviceFrame_lowerFrame p]
  rfl

/-- The rendered page of the DEVICE frame: its stream and number in bytes 17 to 19. -/
theorem State.deviceFrame_rendered (s : State) (p : Port) :
    match s.renderedPage with
    | some r => byteAt (s.deviceFrame p) 17 = 128 + r.stream.val ∧ wordAt (s.deviceFrame p) 18 = r.number % 65536
    | none => byteAt (s.deviceFrame p) 17 = 0 ∧ wordAt (s.deviceFrame p) 18 = 0 := by
  have h17 : byteAt (s.deviceFrame p) 17
      = (byte1 (match s.renderedPage with | some r => (128 + r.stream.val, r.number) | none => (0, 0)).1).toNat := rfl
  have h18 : wordAt (s.deviceFrame p) 18
      = (match s.renderedPage with | some r => (128 + r.stream.val, r.number) | none => (0, 0)).2 % 65536 := byte2_toNat _
  rw [h17, h18]
  cases s.renderedPage with
  | none => exact ⟨rfl, rfl⟩
  | some r => exact ⟨byte1_toNat_of_lt (by have := r.stream.isLt; dsimp only; omega), rfl⟩

/-- The page being rendered is that of the RENDERING buffer (R140). -/
theorem State.renderedPage_eq (s : State) :
    s.renderedPage = (([0, 1] : List (Fin 2)).find? fun b => decide ((s.buffer b).state = .rendering)).bind
      fun b => (s.buffer b).page := by
  unfold State.renderedPage State.renderingBuffer allBuffers
  cases ([0, 1] : List (Fin 2)).find? fun b => decide ((s.buffer b).state = .rendering) <;> rfl

/-! ### The MARK frame -/

/-- The end event of a SENSE MARK (R178). -/
theorem exec_senseMark {s : State} {p : Port} {i : StreamNo} {carriage : Byte}
    (h : s.ControlReceived p i carriage false false [0x01#8, 0x03#8]) :
    exec (.senseMark p) s = .next (s.answeredTaken p i
      (fun u => u.updPort p fun q => { q with capture := none, renewed := false, causes := { q.causes with mark := false } })
      false (s.port p).markFrame) := by
  have hend := s.endEvent_bound_control (.sense 0x03#8) p 0x01#8 true (readSense 0x03#8) (fun _ _ u => senseMarkRule p u) i
    carriage false false [0x03#8] h rfl fun _ => ⟨rfl, rfl⟩
  have hport : (s.lowerFrame p).port p = { s.port p with frame := false } := State.port_updPort_self s p _
  have hframe : ((s.lowerFrame p).port p).markFrame = (s.port p).markFrame := by rw [hport]; rfl
  refine congrArg _ (hend.trans ?_)
  rw [← hframe]
  rfl

/-- An empty capture reads as zeros behind the frame's number. -/
theorem markFrame_none {q : PortState} (h : q.capture = none) : q.markFrame = byte1 4 :: List.replicate 31 0 := by
  simp [PortState.markFrame, h]

theorem markFrame_some {q : PortState} {c : Capture} (h : q.capture = some c) :
    q.markFrame = [byte1 4, byte1 (1 + q.renewed.toNat * 2), byte1 c.stream.val] ++ byte2 c.markId.toNat ++ byte2 c.page
      ++ [byte1 c.stacker.code] ++ byte4 c.total.toNat ++ List.replicate 20 0 := by
  simp [PortState.markFrame, h]

/-- Settles O16. -/
theorem senseDeviceAndMarkReturnFrames : Obligations.SenseDeviceAndMarkReturnFrames := by
  unfold Obligations.SenseDeviceAndMarkReturnFrames
  constructor
  · intro s p i carriage h
    refine ⟨s.deviceFrame p, exec_senseDevice h, rfl, rfl, ?_, ?_, ?_, ?_, ?_, s.spoolUsed_eq, rfl, fun j => ?_,
      byte1_bitSet_testBit (s.port p).deviceSet (by decide), ?_, ?_, ?_, ?_,
      byte1_bitSet_testBit (s.port p).causes.streams (by decide), ?_, fun k hk => byteAt_eq_zero_of_drop (n := 5) rfl hk⟩
    · have hrun := s.run.code_lt
      have hcause := s.cause.code_lt
      have hbyte : byteAt (s.deviceFrame p) 1 = 16 * s.run.code + s.cause.code :=
        (byte1_toNat_of_lt (by omega)).trans (by omega)
      rw [hbyte]
      exact congrArg₂ (fun r c => 16 * r + c) (by cases s.run <;> rfl) (by cases s.cause <;> rfl)
    · exact byte1_toNat_of_lt (s.outstanding_lt.trans (by decide))
    · exact (byte2_toNat _).trans (Nat.mod_eq_of_lt ((Nat.sub_le _ _).trans_lt (by decide)))
    · exact byte1_toNat_of_lt ((Nat.sub_le _ _).trans_lt (by decide))
    · exact (byte2_toNat _).trans (Nat.mod_eq_of_lt ((Nat.sub_le _ _).trans_lt (by decide)))
    · have hbyte : byteAt (s.deviceFrame p) (8 + j.val) = (s.summary j).toNat := by fin_cases j <;> rfl
      rw [hbyte, s.summary_toNat]
      refine congrArg₂ (fun b w => 64 * b + 8 * w + 4 * (s.openPage j).isSome.toNat) ?_ ?_
      · match (s.stream j).binding with
        | none => rfl
        | some .a => rfl
        | some .b => rfl
      · cases (s.stream j).wait <;> rfl
    · have hlt := bitSet_lt (s.port p).deviceSet.items
      rw [(s.port p).deviceSet.size] at hlt
      exact (byte1_toNat_of_lt (hlt.trans (by decide))).trans_lt hlt
    · have hrendered := s.deviceFrame_rendered p
      rw [s.renderedPage_eq] at hrendered
      exact hrendered
    · exact (byte4_toNat _).trans (Nat.mod_eq_of_lt s.sheetsStacked.isLt)
    · have hbits : ∀ m d r : Bool, (byte1 (bitSet [m, d, r])).toNat = m.toNat + 2 * d.toNat + 4 * r.toNat := by decide
      exact hbits _ _ _
    · have hbits : ∀ h : Bool, (byte1 (bitSet [decide (p = .b), h])).toNat = (if p = .b then 1 else 0) + 2 * h.toNat := by
        cases p <;> decide
      exact hbits _
  · intro s p i carriage h
    refine ⟨(s.port p).markFrame, exec_senseMark h, ?_⟩
    cases hc : (s.port p).capture with
    | none =>
      rw [markFrame_none hc]
      exact ⟨rfl, rfl, fun k hk => byteAt_eq_zero_of_drop (m := 12) (n := 20) rfl hk,
        fun k hk => byteAt_eq_zero_of_drop (m := 1) (n := 31) rfl hk⟩
    | some c =>
      rw [markFrame_some hc]
      refine ⟨rfl, rfl, fun k hk => byteAt_eq_zero_of_drop (n := 20) rfl hk, ?_, ?_, ?_, ?_, ?_, ?_⟩
      · cases (s.port p).renewed <;> rfl
      · exact byte1_toNat_of_lt (c.stream.isLt.trans (by decide))
      · exact (byte2_toNat _).trans (Nat.mod_eq_of_lt c.markId.isLt)
      · exact byte2_toNat _
      · cases c.stacker <;> rfl
      · exact (byte4_toNat _).trans (Nat.mod_eq_of_lt c.total.isLt)

/-! ### The STREAM STATE and STREAM CONDITIONS frames -/

/-- Byte 2 of the STREAM STATE frame: the pending and the present form, whether a select is pending and the form started, and the
binding. -/
theorem State.streamFrame_byte2 (s : State) (j : StreamNo) :
    byteAt (s.streamFrame j) 2 =
      64 * (((s.stream j).carriage.pending.map fun e => e.form.val).getD 0) + 16 * (s.stream j).carriage.form.val
        + 8 * (s.stream j).carriage.pending.isSome.toNat + 4 * (s.stream j).carriage.started.toNat
        + bindingCode (s.stream j).binding := by
  have hbyte : byteAt (s.streamFrame j) 2 =
      (byte1 ((match (s.stream j).carriage.pending with | some sel => (sel.form.val, 1, sel.width) | none => (0, 0, 0)).1 * 64
        + (s.stream j).carriage.form.val * 16
        + (match (s.stream j).carriage.pending with | some sel => (sel.form.val, 1, sel.width) | none => (0, 0, 0)).2.1 * 8
        + (s.stream j).carriage.started.toNat * 4 + bindingCode (s.stream j).binding)).toNat := rfl
  have hform := (s.stream j).carriage.form.isLt
  have hstarted := (s.stream j).carriage.started.toNat_lt
  have hbinding := bindingCode_lt (s.stream j).binding
  rw [hbyte]
  cases (s.stream j).carriage.pending with
  | none =>
    refine (byte1_toNat_of_lt (by dsimp only; omega)).trans ?_
    simp only [Option.map_none, Option.getD_none, Option.isSome_none, Bool.toNat_false]
    omega
  | some sel =>
    have hsel := sel.form.isLt
    refine (byte1_toNat_of_lt (by dsimp only; omega)).trans ?_
    simp only [Option.map_some, Option.getD_some, Option.isSome_some, Bool.toNat_true]
    omega

theorem State.streamFrame_byte4 (s : State) (j : StreamNo) :
    byteAt (s.streamFrame j) 4 = (((s.stream j).carriage.pending.map fun e => e.width).getD 0) % 256 := by
  have hbyte : byteAt (s.streamFrame j) 4 =
      (byte1 (match (s.stream j).carriage.pending with | some sel => (sel.form.val, 1, sel.width) | none => (0, 0, 0)).2.2).toNat := rfl
  rw [hbyte, byte1_toNat]
  cases (s.stream j).carriage.pending <;> rfl

/-- The STREAM STATE frame from byte 8 on, joined from the right. -/
theorem State.streamFrame_drop (s : State) (j : StreamNo) :
    (s.streamFrame j).drop 8 =
      byte2 (s.stream j).queue.length ++ (byte2 (s.stream j).quota ++ (byte2 (s.stream j).pageCounter
        ++ byte1 (s.pagesOf j).length :: byte1 (s.stream j).syncsCompleted.toNat
        :: (byte2 (s.stream j).recordsTaken.toNat ++ (byte2 (s.stream j).linesComposed.toNat
        ++ (byte2 (s.stream j).pagesStacked.toNat ++ (byte2 (s.stream j).marksDelivered.toNat
        ++ (byte2 (s.stream j).blankFormsCounter.toNat ++ (byte1 (s.stream j).wait.code :: List.replicate 5 0)))))))) := rfl

theorem State.streamFrame_sequence (s : State) (j : StreamNo) :
    wordAt (s.streamFrame j) 6 = (s.stream j).carriage.sequence.toNat :=
  (byte2_toNat _).trans (Nat.mod_eq_of_lt (s.stream j).carriage.sequence.isLt)

/-- The queue count, the quota and the page counter, at bytes 8 to 13 of the STREAM STATE frame. -/
theorem State.streamFrame_words (s : State) (j : StreamNo) :
    wordAt (s.streamFrame j) 8 = (s.stream j).queue.length % 65536 ∧ wordAt (s.streamFrame j) 10 = (s.stream j).quota % 65536 ∧
      wordAt (s.streamFrame j) 12 = (s.stream j).pageCounter % 65536 := by
  refine ⟨(wordAt_drop _ 8 0).symm.trans ?_, (wordAt_drop _ 8 2).symm.trans ?_, (wordAt_drop _ 8 4).symm.trans ?_⟩ <;>
    rw [s.streamFrame_drop] <;> exact byte2_toNat _

/-- The number of the stream's pages, its counters and its wait, at bytes 14 to 26 of the STREAM STATE frame. -/
theorem State.streamFrame_counters (s : State) (j : StreamNo) :
    let f := s.streamFrame j
    let t := s.stream j
    byteAt f 14 = (s.pagesOf j).length % 256 ∧
      byteAt f 15 = t.syncsCompleted.toNat ∧ wordAt f 16 = t.recordsTaken.toNat ∧ wordAt f 18 = t.linesComposed.toNat ∧
      wordAt f 20 = t.pagesStacked.toNat ∧ wordAt f 22 = t.marksDelivered.toNat ∧ wordAt f 24 = t.blankFormsCounter.toNat ∧
      byteAt f 26 = t.wait.code ∧ f.drop 27 = List.replicate 5 0 := by
  intro f t
  have hword : ∀ b : BitVec 16, 256 * (byte1 (b.toNat / 256)).toNat + (byte1 b.toNat).toNat = b.toNat :=
    fun b => (byte2_toNat _).trans (Nat.mod_eq_of_lt b.isLt)
  refine ⟨(byteAt_drop f 8 6).symm.trans ?_, (byteAt_drop f 8 7).symm.trans ?_, (wordAt_drop f 8 8).symm.trans ?_,
    (wordAt_drop f 8 10).symm.trans ?_, (wordAt_drop f 8 12).symm.trans ?_, (wordAt_drop f 8 14).symm.trans ?_,
    (wordAt_drop f 8 16).symm.trans ?_, (byteAt_drop f 8 18).symm.trans ?_, (List.drop_drop (i := 19) (j := 8) (l := f)).symm.trans ?_⟩
  all_goals rw [s.streamFrame_drop]
  · exact byte1_toNat _
  · exact byte1_toNat_of_lt t.syncsCompleted.isLt
  · exact hword _
  · exact hword _
  · exact hword _
  · exact hword _
  · exact hword _
  · exact byte1_toNat_of_lt (t.wait.code_lt.trans (by decide))
  · rfl

/-- The 21 counts of the STREAM CONDITIONS frame, at bytes 2 to 22. -/
theorem State.conditionsFrame_count (s : State) (j : StreamNo) (k : Fin 21) :
    byteAt (s.conditionsFrame j) (2 + k.val) = (s.stream j).counts.get k % 256 := by
  have hk : k.val < (s.stream j).counts.items.length := by rw [(s.stream j).counts.size]; exact k.isLt
  have hdrop : (s.conditionsFrame j).drop 2 = (s.stream j).counts.items.map byte1 ++ List.replicate 9 0 := rfl
  rw [← byteAt_drop, hdrop, byteAt, List.getElem?_append_left (by simpa using hk), List.getElem?_map, List.getElem?_eq_getElem hk]
  exact byte1_toNat _

/-- Behind the counts the STREAM CONDITIONS frame is zeros. -/
theorem State.conditionsFrame_drop (s : State) (j : StreamNo) : (s.conditionsFrame j).drop 23 = List.replicate 9 0#8 := by
  have hdrop : (s.conditionsFrame j).drop 23 = ((s.stream j).counts.items.map byte1 ++ List.replicate 9 0).drop 21 := rfl
  rw [hdrop]
  exact List.drop_left' (by simp [(s.stream j).counts.size])

/-- The end event of a SENSE STREAM of stream `j` (R175, R176). -/
theorem endEvent_senseStream {s : State} {p : Port} {i : StreamNo} {carriage : Byte} {j : StreamNo}
    (h : s.ControlReceived p i carriage false false [0x01#8, 0x02#8, BitVec.ofNat 8 j.val]) :
    exec (.senseStream p) s = .next (match senseStreamRule p j (s.lowerFrame p) with
      | .refused r => s.answeredRefused p (some i) r
      | .held => (s.lowerFrame p).answer p .held false []
      | .taken after overflow frames => (after.countTaken i).answer p .taken overflow frames) := by
  have hend := s.endEvent_bound_control (.sense 0x02#8) p 0x01#8 true readSenseStream (fun _ k u => senseStreamRule p k u) i
    carriage false false _ h rfl fun _ => ⟨rfl, rfl⟩
  have hread : readSenseStream [0x01#8, 0x02#8, BitVec.ofNat 8 j.val] = .ok j := by
    have hj : (BitVec.ofNat 8 j.val).toNat = j.val := lengthByte j.val (by have := j.isLt; omega)
    simp [readSenseStream, senseSelector, hj, streamOf_val]
  rw [hread] at hend
  exact congrArg _ hend

/-- Settles O17. -/
theorem senseStreamReturnsTwoFrames : Obligations.SenseStreamReturnsTwoFrames := by
  unfold Obligations.SenseStreamReturnsTwoFrames
  intro s p i carriage j h t
  rw [endEvent_senseStream h]
  have hstream : (s.lowerFrame p).stream j = t := rfl
  refine ⟨fun ⟨q, hq, hne⟩ => ?_, fun hown => ?_⟩
  · have hother : ¬(t.binding = none ∨ t.binding = some p) := by simp [hq, hne]
    unfold senseStreamRule
    rw [hstream, if_neg hother]
  · have htaken : ((match senseStreamRule p j (s.lowerFrame p) with
        | .refused r => s.answeredRefused p (some i) r
        | .held => (s.lowerFrame p).answer p .held false []
        | .taken after overflow frames => (after.countTaken i).answer p .taken overflow frames) : State)
        = s.answeredTaken p i (fun u => (u.updStream j fun v => { v with counts := .replicate 21 0 }).updPort p
            fun q => { q with causes := { q.causes with streams := q.causes.streams.set j false } }) false
          (s.streamFrame j ++ s.conditionsFrame j) := by
      unfold senseStreamRule
      rw [hstream, if_pos hown]
      rfl
    obtain ⟨hqueue, hquota, hpage⟩ := s.streamFrame_words j
    obtain ⟨hpages, hsyncs, hrecords, hlines, hstacked, hmarks, hblanks, hwait, hzeros⟩ := s.streamFrame_counters j
    refine ⟨s.streamFrame j, s.conditionsFrame j, congrArg _ htaken, rfl, rfl, ?_, ?_, byte1_toNat _, s.streamFrame_byte4 j,
      byte1_toNat _, ?_, hqueue, hquota, hpage, hpages, hsyncs, hrecords, hlines, hstacked, hmarks, hblanks,
      ?_, fun k hk => byteAt_eq_zero_of_drop hzeros hk, ?_, rfl, ?_, s.conditionsFrame_count j,
      fun k hk => byteAt_eq_zero_of_drop (s.conditionsFrame_drop j) hk⟩
    · exact byte1_toNat_of_lt (j.isLt.trans (by decide))
    · refine (s.streamFrame_byte2 j).trans (congrArg _ ?_)
      change bindingCode t.binding = _
      match t.binding with
      | none => rfl
      | some .a => rfl
      | some .b => rfl
    · exact s.streamFrame_sequence j
    · refine hwait.trans ?_
      cases t.wait <;> rfl
    · simp [State.conditionsFrame, (s.stream j).counts.size]
    · exact byte1_toNat_of_lt (j.isLt.trans (by decide))

end Sys2Proof.Machine
end

section
/-! Grants and the composer's commands: the granted stream is the round robin's choice (R59 to R61), and each composer command is the
taking of one kind of record (R63). -/

namespace Sys2Proof.Machine

/-! ### The grant (R59 to R61) -/

theorem State.claimedByOther_iff (s : State) (i : StreamNo) (k : Fin 2) :
    s.claimedByOther i k = true ↔ ∃ j : StreamNo, j ≠ i ∧ (s.stream j).fenceClaim = some k := by
  have hall : ∀ j : StreamNo, j ∈ allStreams := by decide
  simp [State.claimedByOther, hall]

theorem Resolved.isPrint_iff (r : Resolved) : r.isPrint = true ↔ ∃ data, r.body = .print data := by
  unfold Resolved.isPrint
  cases r.body <;> simp

theorem State.barred_iff (s : State) (i : StreamNo) (r : Resolved) :
    s.barred i r = true ↔ (∃ data, r.body = .print data) ∧ (s.stream i).buffer = none ∧
      ∃ j : StreamNo, j ≠ i ∧ (s.stream j).fenceClaim = some (s.stream i).attributes.tableSet := by
  simp only [State.barred, Bool.and_eq_true, r.isPrint_iff, Option.isNone_iff_eq_none, s.claimedByOther_iff, and_assoc]

theorem State.eligible_iff (s : State) (i : StreamNo) :
    s.eligible i = true ↔ (s.stream i).binding ≠ none ∧ (s.stream i).wait = .none ∧
      ∃ r, (∃ rest, (s.stream i).queue = r :: rest) ∧ ¬s.barred i r = true := by
  unfold State.eligible
  dsimp only
  cases (s.stream i).queue with
  | nil => simp
  | cons r rest => simp [and_assoc]

theorem Stream.effectivePriority_eq (t : Stream) :
    t.effectivePriority = (t.composerPriority.val : Int) - (if t.pageAge = .expired then 4 else 0) := by
  unfold Stream.effectivePriority
  split <;> simp

theorem State.grant_of_idle {s : State} (h : s.taking = none) :
    s.grant = s.chosen.bind fun i => (s.stream i).queue.head?.map fun r => (i, r) := by
  rw [State.grant, h]

theorem State.grant_of_granted {s : State} {j : StreamNo} (h : s.taking = some (.granted j)) :
    s.grant = (s.stream j).queue.head?.map fun r => (j, r) := by
  rw [State.grant, h]
  rfl

theorem State.grant_of_discarded {s : State} {body : Body} (h : s.taking = some (.discarded body)) : s.grant = none := by
  rw [State.grant, h]
  rfl

theorem headPair_eq_some {q : List Resolved} {j i : StreamNo} {r : Resolved} :
    (q.head?.map fun r => (j, r)) = some (i, r) ↔ j = i ∧ ∃ rest, q = r :: rest := by
  cases q <;> simp [and_comm]

theorem State.chosen_eq_some (s : State) (i : StreamNo) :
    s.chosen = some i ↔ (s.run = .run ∨ s.run = .check) ∧ s.eligible i = true ∧
      ∀ j : StreamNo, j ≠ i → s.eligible j = true →
        (s.stream i).effectivePriority < (s.stream j).effectivePriority ∨
          (s.stream i).effectivePriority = (s.stream j).effectivePriority ∧
            (i.val + 7 - s.composerPointer.val) % 8 < (j.val + 7 - s.composerPointer.val) % 8 := by
  unfold State.chosen
  split <;> rename_i hrun
  · rw [roundRobin_eq_some]
    exact (and_iff_right hrun).symm
  · exact ⟨nofun, fun h => absurd h.1 hrun⟩

/-- Settles O23. -/
theorem grantGoesToTheFirstInLine : Obligations.GrantGoesToTheFirstInLine := by
  unfold Obligations.GrantGoesToTheFirstInLine
  intro s i r head eligible number turn
  have heligible : ∀ j, s.eligible j = true ↔ eligible j := fun j => by
    rw [s.eligible_iff j]
    simp only [s.barred_iff]
    rfl
  have hnumber : ∀ j, (s.stream j).effectivePriority = number j := fun j => (s.stream j).effectivePriority_eq
  refine ⟨fun hidle => ?_, fun j hj => ?_, fun body hbody => s.grant_of_discarded hbody⟩
  · rw [s.grant_of_idle hidle, Option.bind_eq_some_iff]
    simp only [headPair_eq_some, s.chosen_eq_some, heligible, hnumber]
    constructor
    · rintro ⟨j, ⟨hrun, hj, hfirst⟩, rfl, hhead⟩
      exact ⟨hrun, hj, hhead, hfirst⟩
    · rintro ⟨hrun, hi, hhead, hfirst⟩
      exact ⟨i, ⟨hrun, hi, hfirst⟩, rfl, hhead⟩
  · rw [s.grant_of_granted hj, headPair_eq_some]
    exact and_congr_right fun hji => by rw [hji]

/-! ### The composer's commands (R63) -/

/-- The end of a grant does not look at the taking that ends. -/
theorem State.endGrant_eq (s : State) : s.endGrant = s.takingEnds := by
  have hrest : ({ s with taking := none } : State).atRest = decide (s.outstanding = 0) := Bool.and_true _
  unfold State.endGrant State.testStopped State.takingEnds
  rw [hrest]
  by_cases h : s.run = .stopping ∧ s.outstanding = 0
  · rw [if_pos ⟨h.1, decide_eq_true h.2⟩, if_pos h]
    exact State.joinBoth_eq _ _
  · rw [if_neg h, if_neg fun hs => h ⟨hs.1, of_decide_eq_true hs.2⟩]

/-- The command takes records of one kind: what it takes is read from the record's body by `pick`, which finds it exactly in the
bodies of the command's own kind, and the lines it puts to the space test are those the record's taking emits. -/
def IsTaking (c : Instr) : Prop :=
  ∃ (α : Type) (pick : Body → Option α) (kind : State → StreamNo → Resolved → α → Taking),
    (∀ s, exec c s = .next (s.take pick kind)) ∧
    (∀ body, (pick body).isSome = true ↔ c = takeCommand body) ∧
    ∀ s i r a, pick r.body = some a → (kind s i r a).lines = s.takingLines i r

theorem isTaking_of_mem : ∀ c ∈ composerCommands, IsTaking c := by
  intro c hc
  simp only [composerCommands, List.mem_cons, List.not_mem_nil, or_false] at hc
  rcases hc with rfl | rfl | rfl | rfl | rfl | rfl | rfl | rfl | rfl | rfl | rfl
  -- each of the eleven is `State.take` with a pick and a taking of its own, compared with the eleven kinds of body
  all_goals
    refine ⟨_, _, _, fun s => rfl, fun body => ?_, fun s i r a hpick => ?_⟩
    · cases body <;> simp [takeCommand]
    · unfold State.takingLines
      cases hbody : r.body <;> rw [hbody] at hpick <;> simp_all [printTaking, markTaking, closeTaking, controlTaking]

section
variable {s : State} {α : Type} {pick : Body → Option α} {kind : State → StreamNo → Resolved → α → Taking}

theorem State.take_of_none (hgrant : s.grant = none) (hkept : ∀ body, s.taking ≠ some (.discarded body)) :
    s.take pick kind = s := by
  unfold State.take
  rw [hgrant]
  match htaking : s.taking with
  | none => rfl
  | some (.granted _) => rfl
  | some (.discarded body) => exact absurd htaking (hkept body)

theorem State.take_of_otherKind {i : StreamNo} {r : Resolved} (hgrant : s.grant = some (i, r)) (hpick : pick r.body = none) :
    s.take pick kind = s := by
  simp only [State.take, hgrant, hpick]

theorem State.take_of_ownKind {i : StreamNo} {r : Resolved} {a : α} (hgrant : s.grant = some (i, r)) (hpick : pick r.body = some a) :
    s.take pick kind = s.carryOut i r (kind s i r a) := by
  simp only [State.take, hgrant, hpick]

theorem State.take_of_discarded {body : Body} (htaking : s.taking = some (.discarded body)) :
    s.take pick kind = if (pick body).isSome then s.endGrant else s := by
  unfold State.take
  rw [s.grant_of_discarded htaking, htaking]

end

/-- A taking whose space test fails leaves the stream waiting and the pointer moved, and nothing else (R63 step 1). -/
theorem State.carryOut_of_noSpace {s : State} {i : StreamNo} {r : Resolved} {k : Taking}
    (h : (s.beginGrant i).spaceTest i k.lines = false) :
    s.carryOut i r k = ({ s with composerPointer := i } : State).waits i .store := by
  have hwait : s.carryOut i r k = (s.beginGrant i).endWaiting i .store := if_neg (by simp [h])
  exact hwait.trans (State.endGrant_eq _)

theorem takeCommand_mem (body : Body) : takeCommand body ∈ composerCommands := by
  cases body <;> simp [takeCommand, composerCommands]

/-- Settles O24. -/
theorem takingsOfOtherKindsWaitsAndDiscards : Obligations.TakingsOfOtherKindsWaitsAndDiscards := by
  unfold Obligations.TakingsOfOtherKindsWaitsAndDiscards
  refine fun s => ⟨fun i => rfl, fun hgrant hkept c hc => ?_, fun i r hgrant => ⟨fun c hc hne => ?_, fun hspace => ?_⟩,
    fun body htaking => ⟨?_, fun c hc hne => ?_⟩⟩
  · obtain ⟨α, pick, kind, hexec, -, -⟩ := isTaking_of_mem c hc
    rw [hexec, State.take_of_none hgrant hkept]
  · obtain ⟨α, pick, kind, hexec, hpick, -⟩ := isTaking_of_mem c hc
    have hnone : pick r.body = none := by simpa [← hpick] using hne
    rw [hexec, State.take_of_otherKind hgrant hnone]
  · obtain ⟨α, pick, kind, hexec, hpick, hlines⟩ := isTaking_of_mem _ (takeCommand_mem r.body)
    obtain ⟨a, ha⟩ := Option.isSome_iff_exists.mp ((hpick r.body).mpr rfl)
    rw [hexec, State.take_of_ownKind hgrant ha]
    exact congrArg _ (State.carryOut_of_noSpace (by rw [hlines s i r a ha]; exact hspace))
  · obtain ⟨α, pick, kind, hexec, hpick, -⟩ := isTaking_of_mem _ (takeCommand_mem body)
    rw [hexec, State.take_of_discarded htaking, if_pos ((hpick body).mpr rfl), State.endGrant_eq]
  · obtain ⟨α, pick, kind, hexec, hpick, -⟩ := isTaking_of_mem c hc
    rw [hexec, State.take_of_discarded htaking, if_neg fun h => hne ((hpick body).mp h)]

end Sys2Proof.Machine
end

section
/-! Power-on reset (R192), the counting of a stream condition (R13), and the laws at reset. -/

namespace Sys2Proof.Machine

/-- The power-on translate entry of a byte (R48). -/
theorem XlateEntry.powerOn_eq (b : Byte) :
    XlateEntry.powerOn b.toNat =
      if b.toNat = 0x20 then .space
      else if h : 0x21 ≤ b.toNat ∧ b.toNat ≤ 0x5E then .glyph ⟨b.toNat, by omega⟩ none
      else if b.toNat = 0x5F then .underscore
      else if h : 0x61 ≤ b.toNat ∧ b.toNat ≤ 0x7A then .glyph ⟨b.toNat - 32, by omega⟩ none
      else .void := by
  have hglyph : ∀ n (h : n < 384), (Fin.ofNat 384 n : Glyph) = ⟨n, h⟩ := fun n h => Fin.ext (Nat.mod_eq_of_lt h)
  unfold XlateEntry.powerOn
  split
  · rfl
  · split <;> rename_i hfirst
    · rw [hglyph]
    · split
      · rfl
      · split <;> rename_i hsecond
        · rw [hglyph]
        · rfl

/-- Settles O3. -/
theorem powerOnResetsTheWholePart : Obligations.PowerOnResetsTheWholePart := by
  unfold Obligations.PowerOnResetsTheWholePart
  refine fun s => ⟨_, rfl, rfl, ?streams, rfl, ?forms, ?tables, rfl, rfl, rfl, rfl, rfl, ?geometry, ?slots, ?buffers,
    rfl, rfl, rfl, rfl, rfl, rfl, ?ring, rfl, rfl, rfl, ?ports, rfl, rfl, rfl⟩
  case streams => exact fun i => Bank.get_replicate _ i
  case forms => exact fun f => Bank.get_replicate _ f
  case tables =>
    intro k
    have hset : State.reset.tables.get k = .initial := Bank.get_replicate _ k
    refine ⟨congrArg TableSet.pairs hset, fun b => ?_⟩
    calc (State.reset.tables.get k).xlate.get ⟨b.toNat, b.isLt⟩
      _ = (TableSet.initial.xlate).get ⟨b.toNat, b.isLt⟩ := by rw [hset]
      _ = XlateEntry.powerOn b.toNat := Bank.get_ofFn _ _
      _ = _ := XlateEntry.powerOn_eq b
  case geometry => exact fun k => Bank.get_replicate _ k
  case slots => exact fun k => ⟨Bank.get_replicate _ k, rfl⟩
  case buffers =>
    intro b
    have hfree : State.reset.buffers.get b = .free := Bank.get_replicate _ b
    exact ⟨congrArg Raster.state hfree, congrArg Raster.page hfree⟩
  case ring => exact fun k => Bank.get_replicate _ k
  case ports =>
    intro p
    cases p <;> exact ⟨rfl, rfl, rfl, fun d => Bank.get_replicate _ d, rfl, rfl, rfl⟩

/-- Settles O7. -/
theorem streamConditionIsCounted : Obligations.StreamConditionIsCounted := by
  unfold Obligations.StreamConditionIsCounted
  intro place
  have hplace : ∀ k, Cond.index k = place k := fun k => by cases k <;> rfl
  refine ⟨fun s i k => ⟨?_, fun found => rfl⟩, fun r => by cases r <;> rfl⟩
  unfold State.countCond
  rw [hplace]
  dsimp only
  cases (s.stream i).binding <;> rfl

/-- Settles O57. -/
theorem resetMeetsTheLaws : Obligations.ResetMeetsTheLaws := by
  unfold Obligations.ResetMeetsTheLaws
  have hbuffer : ∀ b, State.reset.buffer b = .free := fun b => Bank.get_replicate _ b
  have hstream : ∀ i, State.reset.stream i = .initial := fun i => Bank.get_replicate _ i
  refine ⟨reset_spoolLaw, by decide, ⟨fun i b hb => ?_, nofun⟩, by decide, ⟨by decide, fun b hb => ?_, by decide⟩, by decide,
    by decide, nofun⟩
  · rw [hstream i] at hb
    cases hb
  · rw [hbuffer b] at hb
    cases hb

end Sys2Proof.Machine
end

section
/-! Cancellation (R19, R24, R103, R134): the effect on the whole state of cancelling a set of streams, the order in which they are
cancelled not mattering; CANCEL is the case of one stream and PORT_RESET that of the streams bound to a port. -/

namespace Sys2Proof.Machine

/-! ### The end of a wait -/

/-- The stream with its wait ended where `ends` says so of it. -/
def Stream.freed (t : Stream) (ends : Wait → Bool) : Stream := if ends t.wait then { t with wait := .none } else t

theorem Stream.freed_wait (t : Stream) (ends : Wait → Bool) : (t.freed ends).wait = if ends t.wait then .none else t.wait := by
  unfold Stream.freed
  split <;> rfl

theorem Stream.freed_eq (t : Stream) (ends : Wait → Bool) : t.freed ends = { t with wait := (t.freed ends).wait } := by
  unfold Stream.freed
  split <;> rfl

theorem Stream.freed_buffer (t : Stream) (ends : Wait → Bool) : (t.freed ends).buffer = t.buffer := by rw [Stream.freed_eq]

theorem Stream.freed_queue (t : Stream) (ends : Wait → Bool) : (t.freed ends).queue = t.queue := by rw [Stream.freed_eq]

theorem Stream.freed_binding (t : Stream) (ends : Wait → Bool) : (t.freed ends).binding = t.binding := by rw [Stream.freed_eq]

theorem Stream.freed_of_not {t : Stream} {ends : Wait → Bool} (h : ends t.wait = false) : t.freed ends = t :=
  if_neg (by simp [h])

/-- One after the other. -/
theorem Stream.freed_freed (t : Stream) {f g : Wait → Bool} (hg : g .none = false) :
    (t.freed f).freed g = t.freed fun w => f w || g w := by
  unfold Stream.freed
  cases hf : f t.wait <;> simp [hf, hg]

/-- The waits that the discarding of the pages `gone` out of `pages` ends: every STORE wait (R83), and each PIN wait whose count
reaches 0 (R128). -/
def storeFrees (pages : List Page) (gone : Page → Bool) : Wait → Bool
  | .store => pages.any gone
  | .pin k => pages.any gone && decide ((pages.filter fun q => !gone q).countP (fun q => decide (q.overlay = some k)) = 0)
  | _ => false

theorem State.stream_endStoreWaits_endPinWaits (s : State) (j : StreamNo) :
    s.endPinWaits.endStoreWaits.stream j = (s.stream j).freed fun w => match w with
      | .store => true
      | .pin k => decide (s.pinCount k = 0)
      | _ => false := by
  rw [State.stream_endStoreWaits, State.stream_endPinWaits]
  unfold Stream.freed
  cases hw : (s.stream j).wait with
  | pin k => by_cases hk : s.pinCount k = 0 <;> simp [hw, hk]
  | none => simp [hw]
  | fence k => simp [hw]
  | sync => simp [hw]
  | store => simp [hw]

theorem State.stream_discardPages (s : State) (gone : Page → Bool) (j : StreamNo) :
    (s.discardPages gone).stream j = (s.stream j).freed (storeFrees s.pages gone) := by
  unfold State.discardPages
  dsimp only
  split <;> rename_i hout <;> rw [List.map_eq_nil_iff, List.filter_eq_nil_iff] at hout
  · have hany : s.pages.any gone = false := by simpa using hout
    exact (Stream.freed_of_not (by cases (s.stream j).wait <;> simp [storeFrees, hany])).symm
  · have hany : s.pages.any gone = true := by simpa using hout
    rw [State.stream_endStoreWaits_endPinWaits]
    refine congrArg (Stream.freed (s.stream j)) (funext fun w => ?_)
    cases w <;> simp [storeFrees, hany, State.pinCount]

theorem State.discardPages_recovery (s : State) (gone : Page → Bool) :
    (s.discardPages gone).recovery = s.recovery.filter fun r => !s.pages.any fun q => gone q && decide (q.ref = r) := by
  have hout : ∀ r, decide (r ∈ (s.pages.filter gone).map Page.ref) = s.pages.any fun q => gone q && decide (q.ref = r) := by
    intro r
    rw [Bool.eq_iff_iff]
    simp [and_assoc]
  simp only [← hout]
  unfold State.discardPages
  dsimp only
  split <;> rename_i hnone
  · simp [hnone]
  · rfl

theorem State.stream_reexamineFence_freed (s : State) (k : Fin 2) (j : StreamNo) :
    (s.reexamineFence k).stream j = (s.stream j).freed fun w => decide (w = .fence k) && s.fenceClear j k := by
  rw [State.stream_reexamineFence]
  simp only [Stream.freed, Bool.and_eq_true, decide_eq_true_eq]

/-- The fence test asks the buffers alone. -/
theorem State.fenceClear_congr {s t : State} (h : ∀ m, (t.stream m).buffer = (s.stream m).buffer) (j : StreamNo) (k : Fin 2) :
    t.fenceClear j k = s.fenceClear j k := by
  simp only [State.fenceClear, Stream.assembles, h]

theorem State.fenceClear_iff (s : State) (j : StreamNo) (k : Fin 2) :
    s.fenceClear j k = true ↔ ∀ m : StreamNo, m ≠ j → (s.stream m).assembles k = false := by
  have hall : ∀ m : StreamNo, m ∈ allStreams := by decide
  simp [State.fenceClear, hall, or_iff_not_imp_left]

theorem Stream.assembles_iff (t : Stream) (k : Fin 2) : t.assembles k = true ↔ ∃ b ∈ t.buffer, b.tableSet = k := by
  unfold Stream.assembles
  cases t.buffer <;> simp

/-! ### The streams cancelled together -/

/-- The pages that the cancellation of the streams in `C` discards (R103). -/
def cancels (C : StreamNo → Bool) (q : Page) : Bool := C q.stream && decide (q.state = .opened ∨ q.state = .closed)

/-- The sync point of a page that is kept becomes no (R103). -/
def settle (C : StreamNo → Bool) (q : Page) : Page := if C q.stream then { q with syncPoint := false } else q

/-- A buffer on set `k` is among those that the cancellation of the streams in `C` discards. -/
def State.losesBuffer (s : State) (C : StreamNo → Bool) (k : Fin 2) : Bool :=
  allStreams.any fun i => C i && (s.stream i).assembles k

/-- The waits of stream `j` that the cancellation of the streams in `C`, from `s` to `t`, ends. -/
def State.cancelFrees (s : State) (C : StreamNo → Bool) (t : State) (j : StreamNo) : Wait → Bool
  | .store => s.pages.any (cancels C)
  | .pin k => s.pages.any (cancels C) && decide (t.pinCount k = 0)
  | .fence k => s.losesBuffer C k && t.fenceClear j k
  | _ => false

/-- The cancellation of the streams in `C` leads from `s` to `t`, each left as `after` makes it (R19, R24). -/
structure Cancelled (after : Stream → Stream) (C : StreamNo → Bool) (s t : State) : Prop where
  stream : ∀ j, t.stream j = if C j then after (s.stream j) else (s.stream j).freed (s.cancelFrees C t j)
  pages : t.pages = (s.pages.filter fun q => !cancels C q).map (settle C)
  recovery : t.recovery = s.recovery.filter fun r => !s.pages.any fun q => cancels C q && decide (q.ref = r)
  slot : ∀ k, t.slot k = if ∃ i, C i = true ∧ s.openLoad i = some k then { s.slot k with state := .empty } else s.slot k
  taking : t.taking = s.takingWithout C
  frame : t = { s with
    streams := t.streams, taking := t.taking, pages := t.pages, overlays := t.overlays, recovery := t.recovery }

/-! ### One stream -/

/-- The stream record of a cancelled stream (R19). -/
def Stream.cancelled (t : Stream) : Stream :=
  { t with queue := [], buffer := none, pageAge := .stopped, fenceClaim := none, wait := .none, carriage := .initial, lastLined := none }

theorem State.discardTaking_taking (s : State) (i : StreamNo) :
    (s.discardTaking i).taking = s.takingWithout fun j => decide (j = i) := by
  unfold State.discardTaking State.takingWithout
  match htaking : s.taking with
  | none => simp [htaking]
  | some (.discarded _) => simp [htaking]
  | some (.granted j) =>
    by_cases hj : j = i
    · subst hj
      cases hqueue : (s.stream j).queue <;> simp [htaking, hqueue]
    · simp [htaking, hj]

theorem State.slot_abandonLoad (s : State) (i : StreamNo) (k : Fin 8) :
    (s.abandonLoad i).slot k = if s.openLoad i = some k then { s.slot k with state := .empty } else s.slot k := by
  unfold State.abandonLoad
  cases s.openLoad i with
  | none => simp
  | some l => simp [State.slot_updSlot]

/-- An abandoned load asks the slots alone. -/
theorem State.abandonLoad_congr {u v : State} (h : u.overlays = v.overlays) (i : StreamNo) :
    u.abandonLoad i = { u with overlays := (v.abandonLoad i).overlays } := by
  have hslot : u.slot = v.slot := funext fun k => by rw [State.slot, State.slot, h]
  have hload : u.openLoad i = v.openLoad i := by rw [State.openLoad, State.openLoad, hslot]
  unfold State.abandonLoad
  rw [hload]
  cases v.openLoad i with
  | none => simp [← h]
  | some k => simp [State.updSlot, h]

/-- The cancellation of a stream before its pages are: the taking, the stream record and its open load. -/
def State.cancelWork (s : State) (i : StreamNo) : State := ((s.discardTaking i).updStream i Stream.cancelled).abandonLoad i

theorem State.cancelWork_eq (s : State) (i : StreamNo) :
    s.cancelWork i = { s.updStream i Stream.cancelled with
      taking := s.takingWithout fun j => decide (j = i), overlays := (s.abandonLoad i).overlays } := by
  rw [← s.discardTaking_taking i]
  unfold State.cancelWork
  rw [s.discardTaking_frame i]
  exact State.abandonLoad_congr (u := ({ s with taking := (s.discardTaking i).taking } : State).updStream i Stream.cancelled)
    (v := s) rfl i

theorem State.cancelStream_eq (s : State) (i : StreamNo) :
    s.cancelStream i = match (s.stream i).buffer with
      | some b => ((s.cancelWork i).cancelPages i).reexamineFence b.tableSet
      | none => (s.cancelWork i).cancelPages i := rfl

theorem State.cancelPages_eq (s : State) (i : StreamNo) :
    s.cancelPages i = { s with
      streams := (s.discardPages (cancels fun j => decide (j = i))).streams
      pages := (s.pages.filter fun q => !cancels (fun j => decide (j = i)) q).map (settle fun j => decide (j = i))
      recovery := s.recovery.filter fun r => !s.pages.any fun q => cancels (fun j => decide (j = i)) q && decide (q.ref = r) } := by
  have hgone : (fun q : Page => decide (q.stream = i ∧ (q.state = .opened ∨ q.state = .closed))) = cancels fun j => decide (j = i) := by
    funext q
    simp [cancels]
  have hsettle : (fun q : Page => if q.stream = i then { q with syncPoint := false } else q) = settle fun j => decide (j = i) := by
    funext q
    simp [settle]
  rw [← State.discardPages_pages, ← State.discardPages_recovery]
  unfold State.cancelPages
  rw [hgone, hsettle, State.discardPages_frame]

theorem State.stream_cancelWork (s : State) (i j : StreamNo) :
    (s.cancelWork i).stream j = if i = j then (s.stream j).cancelled else s.stream j := by
  rw [s.cancelWork_eq]
  exact s.stream_updStream i j _

theorem State.stream_cancelPages (s : State) (i j : StreamNo) :
    (s.cancelPages i).stream j = (s.stream j).freed (storeFrees s.pages (cancels fun j => decide (j = i))) := by
  rw [s.cancelPages_eq]
  exact s.stream_discardPages _ j

/-- A stream that waits for nothing is left as it is. -/
theorem Stream.freed_cancelled (t : Stream) {ends : Wait → Bool} (h : ends .none = false) : t.cancelled.freed ends = t.cancelled :=
  Stream.freed_of_not h

theorem State.stream_cancelStream_self (s : State) (i : StreamNo) : (s.cancelStream i).stream i = (s.stream i).cancelled := by
  have hdiscarded : ((s.cancelWork i).cancelPages i).stream i = (s.stream i).cancelled := by
    rw [State.stream_cancelPages, State.stream_cancelWork, if_pos rfl]
    exact Stream.freed_cancelled _ rfl
  rw [s.cancelStream_eq]
  cases (s.stream i).buffer with
  | none => exact hdiscarded
  | some b =>
    dsimp only
    rw [State.stream_reexamineFence_freed, hdiscarded]
    exact Stream.freed_cancelled _ (by simp)

theorem pinCount_of_pages {s t : State} {C : StreamNo → Bool}
    (h : t.pages = (s.pages.filter fun q => !cancels C q).map (settle C)) (k : Fin 8) :
    t.pinCount k = (s.pages.filter fun q => !cancels C q).countP fun q => decide (q.overlay = some k) := by
  have hoverlay : ∀ q, (settle C q).overlay = q.overlay := fun q => by unfold settle; split <;> rfl
  rw [State.pinCount, h, List.countP_map]
  simp only [Function.comp_def, hoverlay]

theorem State.losesBuffer_one (s : State) (i : StreamNo) (k : Fin 2) :
    s.losesBuffer (fun j => decide (j = i)) k = (s.stream i).assembles k := by
  have hall : ∀ m : StreamNo, m ∈ allStreams := by decide
  rw [Bool.eq_iff_iff]
  simp [State.losesBuffer, hall]

theorem State.cancelStream_pages (s : State) (i : StreamNo) : (s.cancelStream i).pages =
    (s.pages.filter fun q => !cancels (fun j => decide (j = i)) q).map (settle fun j => decide (j = i)) := by
  have hdiscarded : ((s.cancelWork i).cancelPages i).pages =
      (s.pages.filter fun q => !cancels (fun j => decide (j = i)) q).map (settle fun j => decide (j = i)) := by
    rw [State.cancelPages_eq, s.cancelWork_eq]
    rfl
  rw [s.cancelStream_eq]
  cases (s.stream i).buffer <;> exact hdiscarded

theorem State.stream_cancelStream_ne (s : State) {i j : StreamNo} (hj : j ≠ i) :
    (s.cancelStream i).stream j
      = (s.stream j).freed (s.cancelFrees (fun j => decide (j = i)) (s.cancelStream i) j) := by
  have hpages : (s.cancelWork i).pages = s.pages := by rw [s.cancelWork_eq]; rfl
  have hdiscarded : ((s.cancelWork i).cancelPages i).stream j =
      (s.stream j).freed (storeFrees s.pages (cancels fun j => decide (j = i))) := by
    rw [State.stream_cancelPages, State.stream_cancelWork, if_neg hj.symm, hpages]
  have hpins := pinCount_of_pages (s.cancelStream_pages i)
  cases hbuffer : (s.stream i).buffer with
  | none =>
    have hstep : s.cancelStream i = (s.cancelWork i).cancelPages i := by rw [s.cancelStream_eq, hbuffer]
    have hloses : ∀ k, s.losesBuffer (fun j => decide (j = i)) k = false := fun k => by
      rw [s.losesBuffer_one, Stream.assembles, hbuffer]
    rw [congrArg (State.stream · j) hstep, hdiscarded]
    refine congrArg (Stream.freed (s.stream j)) (funext fun w => ?_)
    cases w <;> simp [storeFrees, State.cancelFrees, hloses, hpins]
  | some b =>
    have hstep : s.cancelStream i = ((s.cancelWork i).cancelPages i).reexamineFence b.tableSet := by rw [s.cancelStream_eq, hbuffer]
    have hloses : ∀ k, s.losesBuffer (fun j => decide (j = i)) k = decide (b.tableSet = k) := fun k => by
      rw [s.losesBuffer_one, Stream.assembles, hbuffer]
    have hclear : ∀ k, (s.cancelStream i).fenceClear j k = ((s.cancelWork i).cancelPages i).fenceClear j k := fun k =>
      State.fenceClear_congr (fun m => by rw [hstep, State.stream_reexamineFence_freed, Stream.freed_buffer]) j k
    rw [congrArg (State.stream · j) hstep, State.stream_reexamineFence_freed, hdiscarded, Stream.freed_freed _ (by simp)]
    refine congrArg (Stream.freed (s.stream j)) (funext fun w => ?_)
    cases w with
    | fence k =>
      rcases eq_or_ne k b.tableSet with rfl | hk
      · simp [storeFrees, State.cancelFrees, hloses, hclear]
      · simp [storeFrees, State.cancelFrees, hloses, hk, hk.symm]
    | pin k => simp [storeFrees, State.cancelFrees, hpins]
    | none => rfl
    | sync => rfl
    | store => simp [storeFrees, State.cancelFrees]

/-- What CANCEL's effects are, component by component (R19). -/
theorem State.cancelStream_cancelled (s : State) (i : StreamNo) :
    Cancelled Stream.cancelled (fun j => decide (j = i)) s (s.cancelStream i) := by
  have hframe : s.cancelStream i = { (s.cancelWork i).cancelPages i with streams := (s.cancelStream i).streams } := by
    rw [s.cancelStream_eq]
    cases (s.stream i).buffer <;> rfl
  constructor
  case stream =>
    intro j
    by_cases hj : j = i
    · rw [if_pos (decide_eq_true hj), hj]
      exact s.stream_cancelStream_self i
    · rw [if_neg (by simp [hj])]
      exact s.stream_cancelStream_ne hj
  case pages =>
    rw [hframe, State.cancelPages_eq, s.cancelWork_eq]
    rfl
  case recovery =>
    rw [hframe, State.cancelPages_eq, s.cancelWork_eq]
    rfl
  case slot =>
    intro k
    have hslots : (s.cancelStream i).overlays = (s.abandonLoad i).overlays := by
      rw [hframe, State.cancelPages_eq, s.cancelWork_eq]
    have hslot : (s.cancelStream i).slot k = (s.abandonLoad i).slot k := by rw [State.slot, hslots, State.slot]
    simpa [hslot] using s.slot_abandonLoad i k
  case taking =>
    rw [hframe, State.cancelPages_eq, s.cancelWork_eq]
  case frame =>
    rw [hframe, State.cancelPages_eq, s.cancelWork_eq]
    rfl

/-! ### One after the other -/

/-- What is needed of a cancelled stream for cancellations to compose: it waits for nothing, its buffer is gone, and a wait it had before
does not matter. -/
structure Clears (after : Stream → Stream) : Prop where
  wait : ∀ v, (after v).wait = .none
  buffer : ∀ v, (after v).buffer = none
  freed : ∀ v ends, after (Stream.freed v ends) = after v

section
variable {after : Stream → Stream} {C D : StreamNo → Bool} {s t u : State}

theorem cancels_or (q : Page) : cancels (fun i => C i || D i) q = (cancels C q || cancels D q) :=
  Bool.and_or_distrib_right _ _ _

theorem cancels_settle (q : Page) : cancels D (settle C q) = cancels D q := by
  unfold settle
  split <;> rfl

theorem settle_ref (q : Page) : (settle C q).ref = q.ref := by
  unfold settle
  split <;> rfl

theorem settle_settle (q : Page) : settle D (settle C q) = settle (fun i => C i || D i) q := by
  unfold settle
  cases hC : C q.stream <;> cases hD : D q.stream <;> simp [hC, hD]

theorem Cancelled.stream_of_mem (h : Cancelled after C s t) {j : StreamNo} (hj : C j = true) : t.stream j = after (s.stream j) := by
  rw [h.stream, if_pos hj]

theorem Cancelled.stream_of_notMem (h : Cancelled after C s t) {j : StreamNo} (hj : C j = false) :
    t.stream j = (s.stream j).freed (s.cancelFrees C t j) := by
  rw [h.stream, if_neg (by simp [hj])]

theorem Cancelled.assembles (h : Cancelled after C s t) (hafter : Clears after) (j : StreamNo) (k : Fin 2) :
    (t.stream j).assembles k = (!C j && (s.stream j).assembles k) := by
  cases hj : C j with
  | true => rw [h.stream_of_mem hj, Stream.assembles, hafter.buffer]; rfl
  | false => rw [h.stream_of_notMem hj, Stream.assembles, Stream.freed_buffer]; rfl

theorem Cancelled.slot_loading (h : Cancelled after C s t) {i : StreamNo} (hi : C i = false) (k : Fin 8) :
    (t.slot k).state = .loading i ↔ (s.slot k).state = .loading i := by
  rw [h.slot]
  split <;> rename_i hload
  · obtain ⟨c, hc, hk⟩ := hload
    rw [(s.openLoad_spec c).2 k hk]
    have hne : c ≠ i := fun hci => by simp [hci, hi] at hc
    simp [hne]
  · rfl

theorem Cancelled.openLoad (h : Cancelled after C s t) {i : StreamNo} (hi : C i = false) : t.openLoad i = s.openLoad i := by
  simp only [State.openLoad, h.slot_loading hi]

theorem any_or_eq {α : Type} (l : List α) (f g : α → Bool) :
    (l.any fun q => f q || g q) = (l.any f || l.any fun q => !f q && g q) := by
  induction l with
  | nil => rfl
  | cons x xs ih =>
    simp only [List.any_cons, ih]
    cases f x <;> cases g x <;> simp

/-- The pages that two cancellations discard, one after the other. -/
theorem Cancelled.any_pages (h : Cancelled after C s t) {P : Page → Bool} (hP : ∀ q, P (settle C q) = P q) :
    (s.pages.any fun q => cancels (fun i => C i || D i) q && P q)
      = ((s.pages.any fun q => cancels C q && P q) || t.pages.any fun q => cancels D q && P q) := by
  have hleft : ∀ q, (cancels (fun i => C i || D i) q && P q) = (cancels C q && P q || cancels D q && P q) := fun q => by
    rw [cancels_or, Bool.and_or_distrib_right]
  have hkept : ∀ q, (!(cancels C q && P q) && (cancels D q && P q)) = (!cancels C q && (cancels D q && P q)) := fun q => by
    cases P q <;> simp
  simp only [hleft, any_or_eq, hkept]
  rw [h.pages, List.any_map, List.any_filter]
  simp only [Function.comp_def, cancels_settle, hP]

theorem Cancelled.any_gone (h : Cancelled after C s t) :
    s.pages.any (cancels fun i => C i || D i) = (s.pages.any (cancels C) || t.pages.any (cancels D)) := by
  have hall := h.any_pages (D := D) (P := fun _ => true) fun _ => rfl
  simpa only [Bool.and_true] using hall

theorem Cancelled.pinCount_le (h : Cancelled after C s t) (k : Fin 8) : t.pinCount k ≤ s.pinCount k := by
  rw [pinCount_of_pages h.pages, State.pinCount]
  exact List.Sublist.countP_le List.filter_sublist

theorem Cancelled.pinCount_eq (h : Cancelled after C s t) (hnone : s.pages.any (cancels C) = false) (k : Fin 8) :
    t.pinCount k = s.pinCount k := by
  have hkept : (s.pages.filter fun q => !cancels C q) = s.pages := by
    rw [List.filter_eq_self]
    simpa using hnone
  rw [pinCount_of_pages h.pages, hkept, State.pinCount]

theorem State.losesBuffer_iff (s : State) (C : StreamNo → Bool) (k : Fin 2) :
    s.losesBuffer C k = true ↔ ∃ i, C i = true ∧ (s.stream i).assembles k = true := by
  have hall : ∀ m : StreamNo, m ∈ allStreams := by decide
  simp [State.losesBuffer, hall]

theorem State.losesBuffer_or (s : State) (C D : StreamNo → Bool) (k : Fin 2) :
    s.losesBuffer (fun i => C i || D i) k = (s.losesBuffer C k || s.losesBuffer D k) := by
  rw [Bool.eq_iff_iff]
  simp only [Bool.or_eq_true, State.losesBuffer_iff, or_and_right, exists_or]

/-- Streams not yet cancelled still have their buffers. -/
theorem Cancelled.losesBuffer (h : Cancelled after C s t) (hafter : Clears after) (hdisjoint : ∀ i, C i = true → D i = false)
    (k : Fin 2) : t.losesBuffer D k = s.losesBuffer D k := by
  rw [Bool.eq_iff_iff, State.losesBuffer_iff, State.losesBuffer_iff]
  refine exists_congr fun i => and_congr_right fun hi => ?_
  have hC : C i = false := Bool.eq_false_iff.2 fun hc => by simp [hdisjoint i hc] at hi
  rw [h.assembles hafter, hC]
  simp

theorem Cancelled.fenceClear (h : Cancelled after C s t) (hafter : Clears after) {j : StreamNo} {k : Fin 2}
    (hs : s.fenceClear j k = true) : t.fenceClear j k = true := by
  rw [State.fenceClear_iff] at hs ⊢
  intro m hm
  rw [h.assembles hafter, hs m hm, Bool.and_false]

/-- A fence that stands opens through a cancellation only where a buffer it waits for is discarded. -/
theorem Cancelled.fenceClear_of_not_losesBuffer (h : Cancelled after C s t) (hafter : Clears after) {j : StreamNo} {k : Fin 2}
    (hnone : s.losesBuffer C k = false) (ht : t.fenceClear j k = true) : s.fenceClear j k = true := by
  rw [State.fenceClear_iff] at ht ⊢
  intro m hm
  have hmt := ht m hm
  rw [h.assembles hafter] at hmt
  cases hs : (s.stream m).assembles k with
  | false => rfl
  | true =>
    have hC : C m = true := by simpa [hs] using hmt
    simp [(s.losesBuffer_iff C k).2 ⟨m, hC, hs⟩] at hnone

/-- The waits ended by two cancellations, one after the other. -/
theorem Cancelled.frees (h : Cancelled after C s t) (g : Cancelled after D t u) (hafter : Clears after)
    (hdisjoint : ∀ i, C i = true → D i = false) (j : StreamNo) (w : Wait) :
    (s.cancelFrees C t j w || t.cancelFrees D u j w) = s.cancelFrees (fun i => C i || D i) u j w := by
  cases w with
  | none => rfl
  | sync => rfl
  | store => exact h.any_gone.symm
  | pin k =>
    have hle := g.pinCount_le k
    have heq := fun hnone => g.pinCount_eq hnone k
    simp only [State.cancelFrees, h.any_gone]
    cases s.pages.any (cancels C) <;> cases hD : t.pages.any (cancels D)
    · rfl
    · rfl
    · simp [heq hD]
    · simpa using fun hzero => by omega
  | fence k =>
    have hclear := fun hs => g.fenceClear hafter (j := j) (k := k) hs
    have hback := fun hnone => g.fenceClear_of_not_losesBuffer hafter (j := j) (k := k) hnone
    simp only [State.cancelFrees, s.losesBuffer_or, ← h.losesBuffer hafter hdisjoint (D := D)]
    cases s.losesBuffer C k <;> cases hD : t.losesBuffer D k
    · rfl
    · rfl
    · have hsame : t.fenceClear j k = u.fenceClear j k := Bool.eq_iff_iff.2 ⟨hclear, hback hD⟩
      simp [hsame]
    · rw [Bool.eq_iff_iff]
      simpa using hclear

theorem Cancelled.takingWithout (h : Cancelled after C s t) (hdisjoint : ∀ i, C i = true → D i = false) :
    t.takingWithout D = s.takingWithout fun i => C i || D i := by
  have htaking := h.taking
  unfold State.takingWithout at htaking ⊢
  match hs : s.taking with
  | none => simp [hs] at htaking; simp [htaking]
  | some (.discarded body) => simp [hs] at htaking; simp [htaking]
  | some (.granted i) =>
    rw [hs] at htaking
    dsimp only at htaking ⊢
    cases hC : C i with
    | true =>
      rw [hC] at htaking
      cases hqueue : (s.stream i).queue with
      | nil =>
        rw [hqueue] at htaking
        simp [htaking, hdisjoint i hC]
      | cons r rest =>
        rw [hqueue] at htaking
        simp [htaking]
    | false =>
      have hqueue : (t.stream i).queue = (s.stream i).queue := by rw [h.stream_of_notMem hC, Stream.freed_queue]
      rw [hC] at htaking
      simp [htaking, hqueue]

theorem Cancelled.trans (h : Cancelled after C s t) (g : Cancelled after D t u) (hafter : Clears after)
    (hdisjoint : ∀ i, C i = true → D i = false) : Cancelled after (fun i => C i || D i) s u where
  stream j := by
    cases hC : C j with
    | true =>
      rw [g.stream_of_notMem (hdisjoint j hC), h.stream_of_mem hC]
      exact Stream.freed_of_not (by rw [hafter.wait]; rfl)
    | false =>
      cases hD : D j with
      | true =>
        rw [g.stream_of_mem hD, h.stream_of_notMem hC, hafter.freed]
        rfl
      | false =>
        rw [g.stream_of_notMem hD, h.stream_of_notMem hC, Stream.freed_freed _ rfl]
        exact congrArg (Stream.freed (s.stream j)) (funext (h.frees g hafter hdisjoint j))
  pages := by
    rw [g.pages, h.pages, List.filter_map, List.filter_filter, List.map_map]
    simp only [Function.comp_def, cancels_settle, settle_settle, cancels_or, Bool.not_or, Bool.and_comm]
  recovery := by
    rw [g.recovery, h.recovery, List.filter_filter]
    refine List.filter_congr fun r _ => ?_
    rw [h.any_pages (P := fun q => decide (q.ref = r)) fun q => by rw [settle_ref], Bool.not_or, Bool.and_comm]
  slot k := by
    have hload : (∃ i, D i = true ∧ t.openLoad i = some k) ↔ ∃ i, D i = true ∧ s.openLoad i = some k := by
      refine exists_congr fun i => and_congr_right fun hi => ?_
      have hC : C i = false := Bool.eq_false_iff.2 fun hc => by simp [hdisjoint i hc] at hi
      rw [h.openLoad hC]
    simp only [g.slot, h.slot, hload, Bool.or_eq_true, or_and_right, exists_or]
    by_cases hC : ∃ i, C i = true ∧ s.openLoad i = some k <;> by_cases hD : ∃ i, D i = true ∧ s.openLoad i = some k <;>
      simp [hC, hD]
  taking := g.taking.trans (h.takingWithout hdisjoint)
  frame := g.frame.trans (by rw [h.frame])

end

theorem clears_cancelled : Clears Stream.cancelled where
  wait _ := rfl
  buffer _ := rfl
  freed _ _ := by unfold Stream.freed; split <;> rfl

/-! ### CANCEL (R19) -/

/-- The wait of a stream that is not cancelled. -/
theorem Cancelled.wait_of_notMem {after : Stream → Stream} {C : StreamNo → Bool} {s t : State} (h : Cancelled after C s t)
    {j : StreamNo} (hj : C j = false) :
    (t.stream j).wait = if s.cancelFrees C t j (s.stream j).wait then .none else (s.stream j).wait := by
  rw [h.stream_of_notMem hj, Stream.freed_wait]

/-- But for its wait, such a stream is as it was. -/
theorem Cancelled.kept {after : Stream → Stream} {C : StreamNo → Bool} {s t : State} (h : Cancelled after C s t)
    {j : StreamNo} (hj : C j = false) : { t.stream j with wait := .none } = { s.stream j with wait := .none } := by
  rw [h.stream_of_notMem hj, Stream.freed_eq]

theorem State.fenceClear_iff_buffer (s : State) (j : StreamNo) (k : Fin 2) :
    s.fenceClear j k = true ↔ ∀ m : StreamNo, m ≠ j → ∀ b ∈ (s.stream m).buffer, b.tableSet ≠ k := by
  rw [State.fenceClear_iff]
  refine forall₂_congr fun m _ => ?_
  rw [← Bool.not_eq_true, Stream.assembles_iff]
  simp

/-- Settles O19. -/
theorem cancelDiscardsTheStreamsWork : Obligations.CancelDiscardsTheStreamsWork := by
  unfold Obligations.CancelDiscardsTheStreamsWork
  intro s p i carriage hrec
  refine ⟨?_, ?_⟩
  · have hend := s.endEvent_bound_control (.control 0x04#8) p 0x04#8 true readNone
      (fun h _ u => .taken (u.cancelStream h.stream) false []) i carriage false false [] hrec (fitsControl_code _ _)
      fun _ => ⟨rfl, rfl⟩
    exact congrArg _ hend
  · intro u gone
    refine ⟨u.cancelStream i, rfl, ?_⟩
    have h := u.cancelStream_cancelled i
    have hgone : cancels (fun j => decide (j = i)) = gone := by
      funext q
      simp [cancels, gone]
    have hbuffer : ∀ k, ((u.stream i).buffer.any fun b => decide (b.tableSet = k)) = (u.stream i).assembles k := fun k => by
      unfold Stream.assembles
      cases (u.stream i).buffer <;> rfl
    refine ⟨h.stream_of_mem (decide_eq_true rfl), fun j hj => ?_, ?_, ?_, fun k => ?_, h.taking, h.frame⟩
    · have hC : decide (j = i) = false := decide_eq_false hj
      refine ⟨h.kept hC, (h.wait_of_notMem hC).trans ?_⟩
      cases (u.stream j).wait with
      | none => rfl
      | sync => rfl
      | store => simp [State.cancelFrees, hgone]
      | pin k => simp [State.cancelFrees, hgone]
      | fence k => simp only [State.cancelFrees, Bool.and_eq_true, hbuffer, u.losesBuffer_one, State.fenceClear_iff_buffer]
    · rw [h.pages, hgone]
      exact List.map_congr_left fun q _ => by simp [settle]
    · rw [h.recovery, hgone]
    · rw [h.slot]
      simp

/-! ### PORT_RESET (R24, R182, R193) -/

/-- The stream record of a stream cancelled and unbound (R24). -/
def Stream.unbound (t : Stream) : Stream := { t.cancelled with binding := none }

theorem clears_unbound : Clears Stream.unbound where
  wait _ := rfl
  buffer _ := rfl
  freed t ends := by rw [Stream.unbound, clears_cancelled.freed]; rfl

theorem State.unbindFrom_cancelled {s : State} {p : Port} {i : StreamNo} (hi : (s.stream i).binding = some p) :
    Cancelled Stream.unbound (fun j => decide (j = i)) s (s.unbindFrom p i) := by
  have h := s.cancelStream_cancelled i
  have hunbind : s.unbindFrom p i = (s.cancelStream i).updStream i fun t => { t with binding := none } := if_pos hi
  have hbuffer : ∀ m, ((s.unbindFrom p i).stream m).buffer = ((s.cancelStream i).stream m).buffer := fun m => by
    rw [hunbind, State.stream_updStream]
    split <;> rfl
  constructor
  case stream =>
    intro j
    by_cases hj : j = i
    · subst hj
      rw [if_pos (decide_eq_true rfl), hunbind, State.stream_updStream_self, s.stream_cancelStream_self]
      rfl
    · have hfrees : s.cancelFrees (fun j => decide (j = i)) (s.unbindFrom p i) j
          = s.cancelFrees (fun j => decide (j = i)) (s.cancelStream i) j := by
        funext w
        cases w with
        | fence k => simp only [State.cancelFrees, State.fenceClear_congr hbuffer]
        | pin k => rw [hunbind]; rfl
        | none => rfl
        | sync => rfl
        | store => rfl
      rw [if_neg (by simp [hj]), hfrees, hunbind, State.stream_updStream, if_neg (Ne.symm hj), h.stream_of_notMem (decide_eq_false hj)]
  case pages => rw [hunbind]; exact h.pages
  case recovery => rw [hunbind]; exact h.recovery
  case slot => intro k; rw [hunbind]; exact h.slot k
  case taking => rw [hunbind]; exact h.taking
  case frame => rw [hunbind]; exact congrArg (fun u : State => u.updStream i fun t => { t with binding := none }) h.frame

theorem cancels_nothing : cancels (fun _ => false) = fun _ => false := funext fun _ => Bool.false_and _

theorem Cancelled.nothing (after : Stream → Stream) (s : State) : Cancelled after (fun _ => false) s s where
  stream j := by
    rw [if_neg (by simp)]
    refine (Stream.freed_of_not ?_).symm
    cases (s.stream j).wait <;> simp [State.cancelFrees, cancels_nothing, State.losesBuffer]
  pages := by
    have hsettle : settle (fun _ => false) = id := funext fun _ => rfl
    simp [cancels_nothing, hsettle]
  recovery := by
    have hany : (s.pages.any fun _ => false) = false := List.any_eq_false.2 (by simp)
    simp [cancels_nothing, hany]
  slot k := by simp
  taking := by
    unfold State.takingWithout
    match s.taking with
    | none => rfl
    | some (.granted _) => rfl
    | some (.discarded _) => rfl
  frame := rfl

/-- The streams of a list that are bound to the port, cancelled and unbound one after the other (R24). -/
theorem State.foldl_unbindFrom_cancelled (p : Port) (l : List StreamNo) (hl : l.Nodup) (s : State) :
    Cancelled Stream.unbound (fun j => decide (j ∈ l) && decide ((s.stream j).binding = some p)) s
      (l.foldl (fun u i => u.unbindFrom p i) s) := by
  induction l generalizing s with
  | nil => simpa using Cancelled.nothing _ s
  | cons i l ih =>
    obtain ⟨hi, hl⟩ := List.nodup_cons.1 hl
    have hrest := ih hl (s.unbindFrom p i)
    by_cases hbound : (s.stream i).binding = some p
    · have hfirst := State.unbindFrom_cancelled hbound
      have hboth := hfirst.trans hrest clears_unbound fun j hj => by simp [of_decide_eq_true hj, hi]
      refine (congrArg (fun C => Cancelled Stream.unbound C s _) (funext fun j => ?_)).mp hboth
      by_cases hj : j = i
      · simp [hj, hbound]
      · have hbinding : ((s.unbindFrom p i).stream j).binding = (s.stream j).binding := by
          rw [hfirst.stream_of_notMem (decide_eq_false hj), Stream.freed_binding]
        simp [hj, hbinding]
    · have hsame : s.unbindFrom p i = s := if_neg hbound
      rw [hsame] at hrest
      rw [List.foldl_cons, hsame]
      refine (congrArg (fun C => Cancelled Stream.unbound C s _) (funext fun j => ?_)).mp hrest
      by_cases hj : j = i
      · simp [hj, hbound]
      · simp [hj]

theorem State.resetPort_high {s : State} {p : Port} (h : (s.port p).reset = true) : s.resetPort p = s := by
  unfold State.resetPort
  rw [h]
  rfl

theorem State.resetPort_low {s : State} {p : Port} (h : (s.port p).reset = false) :
    s.resetPort p = allStreams.foldl (fun u i => u.unbindFrom p i) (s.updPort p PortState.onReset) := by
  unfold State.resetPort
  rw [h]
  rfl

/-- Settles O5. -/
theorem portResetActsOnThePortAndItsStreams : Obligations.PortResetActsOnThePortAndItsStreams := by
  unfold Obligations.PortResetActsOnThePortAndItsStreams
  intro s p gone
  refine ⟨fun hhigh => ?_, fun hlow => ?_⟩
  · exact congrArg Host.Outcome.next (State.resetPort_high hhigh)
  · refine ⟨_, congrArg Host.Outcome.next (State.resetPort_low hlow), ?_⟩
    have hall : ∀ j : StreamNo, j ∈ allStreams := by decide
    have hbound : (fun j => decide (j ∈ allStreams) && decide (((s.updPort p PortState.onReset).stream j).binding = some p))
        = fun j => decide ((s.stream j).binding = some p) :=
      funext fun j => by
        rw [decide_eq_true (hall j), Bool.true_and]
        rfl
    have hfold := State.foldl_unbindFrom_cancelled p allStreams (by decide) (s.updPort p PortState.onReset)
    rw [hbound] at hfold
    generalize allStreams.foldl (fun u i => u.unbindFrom p i) (s.updPort p PortState.onReset) = t at hfold
    have hports : t.ports = (s.updPort p PortState.onReset).ports := by rw [hfold.frame]
    have hport : ∀ q, t.port q = (s.updPort p PortState.onReset).port q := fun q => by rw [State.port, hports, State.port]
    have hgone : cancels (fun j => decide ((s.stream j).binding = some p)) = gone := by
      funext q
      simp [cancels, gone]
    have hany : (s.updPort p PortState.onReset).pages.any (cancels fun j => decide ((s.stream j).binding = some p)) = s.pages.any gone :=
      congrArg s.pages.any hgone
    have hloses : ∀ k, (s.updPort p PortState.onReset).losesBuffer (fun j => decide ((s.stream j).binding = some p)) k = true ↔
        ∃ i : StreamNo, (s.stream i).binding = some p ∧ ∃ b ∈ (s.stream i).buffer, b.tableSet = k := fun k =>
      (State.losesBuffer_iff _ _ _).trans (exists_congr fun i => and_congr decide_eq_true_iff (Stream.assembles_iff _ _))
    refine ⟨?_, fun q hq => ?_, fun i hi => hfold.stream_of_mem (decide_eq_true hi), fun j hj => ?_, ?_, ?_, fun k => ?_,
      hfold.taking, ?_⟩
    · rw [hport, State.port_updPort_self]
      rfl
    · rw [hport, State.port_updPort, if_neg (Ne.symm hq)]
    · have hC : decide ((s.stream j).binding = some p) = false := decide_eq_false hj
      refine ⟨hfold.kept hC, (hfold.wait_of_notMem hC).trans ?_⟩
      rw [State.stream_updPort]
      cases (s.stream j).wait with
      | none => rfl
      | sync => rfl
      | store => simp only [State.cancelFrees, hany]
      | pin k => simp only [State.cancelFrees, hany, Bool.and_eq_true, decide_eq_true_eq]
      | fence k => simp only [State.cancelFrees, Bool.and_eq_true, hloses, State.fenceClear_iff_buffer]
    · rw [hfold.pages, hgone]
      exact List.map_congr_left fun q _ => by simp [settle]
    · rw [hfold.recovery, hgone]
      rfl
    · rw [hfold.slot]
      simp only [decide_eq_true_eq]
      rfl
    · refine hfold.frame.trans ?_
      rw [hports]
      rfl

end Sys2Proof.Machine
end

section
/-! Isolation of the ports (R6, R10, R14): what a record on one port leaves of a stream bound to the other, and of the other port. -/

namespace Sys2Proof.Machine

/-! ### What is left untouched -/

/-- From `s` to `t` nothing reaches stream `i` but its waits and its STREAM BUSY count, nor port `q` but its cause set. -/
structure Untouched (i : StreamNo) (q : Port) (s t : State) : Prop where
  stream : { t.stream i with wait := .none, counts := .replicate 21 0 } = { s.stream i with wait := .none, counts := .replicate 21 0 }
  counts : ∀ k : Fin 21, k ≠ 2 → (t.stream i).counts.get k = (s.stream i).counts.get k
  wait : (t.stream i).wait = (s.stream i).wait ∨ (t.stream i).wait = .none
  taking : s.taking = some (.granted i) ↔ t.taking = some (.granted i)
  pages : (t.pages.filter fun g => decide (g.stream = i)) = s.pages.filter fun g => decide (g.stream = i)
  recovery : (t.recovery.filter fun g => decide (g.stream = i)) = s.recovery.filter fun g => decide (g.stream = i)
  slot : ∀ k : Fin 8, (s.slot k).state = .loading i ∨ (t.slot k).state = .loading i → t.slot k = s.slot k
  port : { t.port q with causes := Causes.empty } = { s.port q with causes := Causes.empty }

section
variable {i j : StreamNo} {p q : Port} {s t u : State}

theorem Untouched.trans (h : Untouched i q s t) (g : Untouched i q t u) : Untouched i q s u where
  stream := g.stream.trans h.stream
  counts k hk := (g.counts k hk).trans (h.counts k hk)
  wait := g.wait.elim (fun e => h.wait.imp e.trans e.trans) .inr
  taking := h.taking.trans g.taking
  pages := g.pages.trans h.pages
  recovery := g.recovery.trans h.recovery
  slot k hk := by
    have hloading : (t.slot k).state = .loading i := by
      rcases hk with hs | hu
      · rw [h.slot k (.inl hs), hs]
      · rw [← g.slot k (.inr hu), hu]
    exact (g.slot k (.inl hloading)).trans (h.slot k (.inr hloading))
  port := g.port.trans h.port

/-- A change of other streams, of the cause sets and of what no stream owns. -/
theorem Untouched.of_eq (hstream : t.stream i = s.stream i)
    (hport : { t.port q with causes := Causes.empty } = { s.port q with causes := Causes.empty })
    (htaking : t.taking = s.taking := by rfl) (hpages : t.pages = s.pages := by rfl) (hrecovery : t.recovery = s.recovery := by rfl)
    (hslot : t.overlays = s.overlays := by rfl) : Untouched i q s t where
  stream := by rw [hstream]
  counts _ _ := by rw [hstream]
  wait := .inl (by rw [hstream])
  taking := by rw [htaking]
  pages := by rw [hpages]
  recovery := by rw [hrecovery]
  slot _ _ := by rw [State.slot, State.slot, hslot]
  port := hport

theorem Untouched.refl : Untouched i q s s := .of_eq rfl rfl

theorem untouched_updPort (hq : q ≠ p) (f : PortState → PortState) : Untouched i q s (s.updPort p f) :=
  .of_eq rfl (by rw [State.port_updPort, if_neg hq.symm])

theorem untouched_updStream (hj : j ≠ i) (f : Stream → Stream) : Untouched i q s (s.updStream j f) :=
  .of_eq (by rw [State.stream_updStream, if_neg hj]) rfl

/-- The counting of a condition writes the counts of its stream and the cause sets alone (R13). -/
theorem State.port_countCond (s : State) (j : StreamNo) (k : Cond) (q : Port) :
    { (s.countCond j k).port q with causes := Causes.empty } = { s.port q with causes := Causes.empty } := by
  unfold State.countCond
  dsimp only
  cases (s.stream j).binding with
  | none => rfl
  | some p =>
    dsimp only
    split
    · rw [State.joinCause, State.port_updPort]
      split <;> rfl
    · rfl

theorem untouched_countCond (hj : j ≠ i) (k : Cond) : Untouched i q s (s.countCond j k) :=
  .of_eq (by rw [State.stream_countCond, if_neg hj]) (s.port_countCond j k q) (by rw [State.countCond_frame]) (by simp)
    (by rw [State.countCond_frame]) (by simp)

theorem untouched_countIf (hj : j ≠ i) (b : Bool) (k : Cond) : Untouched i q s (s.countIf b j k) := by
  cases b with
  | false => exact .refl
  | true => exact untouched_countCond hj k

theorem untouched_streamBusy : Untouched i q s (s.countCond i .streamBusy) where
  stream := by rw [State.stream_countCond, if_pos rfl]
  counts k hk := by
    rw [State.stream_countCond, if_pos rfl]
    exact Bank.get_modify_ne _ _ (Ne.symm hk)
  wait := .inl (by rw [State.stream_countCond, if_pos rfl])
  taking := by rw [State.countCond_frame]
  pages := by simp
  recovery := by rw [State.countCond_frame]
  slot k _ := by rw [State.slot, State.countCond_overlays, State.slot]
  port := s.port_countCond i _ q

theorem State.port_joinBoth (s : State) (c : AttnCause) (q : Port) :
    { (s.joinBoth c).port q with causes := Causes.empty } = { s.port q with causes := Causes.empty } := by
  rw [State.joinBoth_eq, State.port_mk_map]

theorem State.port_testStopped (s : State) (q : Port) :
    { s.testStopped.port q with causes := Causes.empty } = { s.port q with causes := Causes.empty } := by
  unfold State.testStopped
  split
  · exact State.port_joinBoth _ _ q
  · rfl

theorem untouched_stopRequest (c : Cause) : Untouched i q s (s.stopRequest c) := by
  have hport : { (s.stopRequest c).port q with causes := Causes.empty } = { s.port q with causes := Causes.empty } := by
    unfold State.stopRequest
    cases s.run with
    | run => exact State.port_testStopped _ q
    | stopping => rfl
    | stopped => rfl
    | check =>
      dsimp only
      split
      · exact State.port_joinBoth _ _ q
      · rfl
  rw [State.stopRequest_frame] at hport ⊢
  exact .of_eq rfl hport

theorem untouched_start : Untouched i q s s.start := by
  rw [State.start_frame]
  exact .of_eq rfl rfl

theorem untouched_cancelStream (hj : j ≠ i) : Untouched i q s (s.cancelStream j) := by
  have h := s.cancelStream_cancelled j
  have hC : decide (i = j) = false := decide_eq_false hj.symm
  have hnot : ∀ g : Page, g.stream = i → cancels (fun m => decide (m = j)) g = false := fun g hg => by simp [cancels, hg, hC]
  have hstream := h.stream_of_notMem hC
  constructor
  case stream => rw [hstream, Stream.freed_eq]
  case counts => intro k _; rw [hstream, Stream.freed_eq]
  case wait =>
    rw [hstream, Stream.freed_wait]
    split
    · exact .inr rfl
    · exact .inl rfl
  case taking =>
    rw [h.taking]
    unfold State.takingWithout
    match s.taking with
    | none => simp
    | some (.discarded _) => simp
    | some (.granted m) =>
      dsimp only
      by_cases hm : m = j
      · subst hm
        cases (s.stream m).queue <;> simp [hj]
      · simp [hm]
  case pages =>
    have hsettle : ∀ g : Page, (settle (fun m => decide (m = j)) g).stream = g.stream := fun g => by
      unfold settle
      split <;> rfl
    rw [h.pages, List.filter_map, List.filter_filter]
    calc ((s.pages.filter _).map _)
      _ = (s.pages.filter fun g => decide (g.stream = i)).map (settle fun m => decide (m = j)) := by
          refine congrArg _ (List.filter_congr fun g _ => ?_)
          by_cases hg : g.stream = i
          · simp [hsettle, hg, hnot g hg]
          · simp [hsettle, hg]
      _ = (s.pages.filter fun g => decide (g.stream = i)).map id := by
          refine List.map_congr_left fun g hg => ?_
          have hgi : g.stream = i := by simpa using (List.mem_filter.1 hg).2
          simp [settle, hgi, hj.symm]
      _ = _ := List.map_id _
  case recovery =>
    rw [h.recovery, List.filter_filter]
    refine List.filter_congr fun r _ => ?_
    by_cases hr : r.stream = i
    · have hnone : (s.pages.any fun g => cancels (fun m => decide (m = j)) g && decide (g.ref = r)) = false := by
        refine List.any_eq_false.2 fun g _ => ?_
        by_cases hg : g.ref = r
        · have hgi : g.stream = i := by rw [← hr, ← hg]; rfl
          simp [hnot g hgi]
        · simp [hg]
      simp [hnone]
    · simp [hr]
  case slot =>
    intro k hk
    rw [h.slot_loading hC, or_self] at hk
    rw [h.slot, if_neg]
    rintro ⟨m, hm, hload⟩
    rw [(s.openLoad_spec m).2 k hload] at hk
    rw [of_decide_eq_true hm] at hk
    exact hj (SlotState.loading.inj hk)
  case port => rw [h.frame]; rfl

/-- A record put at the tail of another stream's queue, and what its motion does to that stream (R11, R31). -/
theorem untouched_queueControl {h : Header} {b : Body} {o : Bool} {f : List Byte} (hj : h.stream ≠ i)
    (e : queueControl h b s = .taken t o f) : Untouched i q s t := by
  unfold queueControl at e
  split at e
  · cases e
  · cases e
    exact untouched_updStream hj _

theorem untouched_closeRule {h : Header} {a : Unit} {o : Bool} {f : List Byte} (hj : h.stream ≠ i)
    (e : closeRule h a s = .taken t o f) : Untouched i q s t := by
  unfold closeRule at e
  split at e
  · cases e
  · cases e
    exact (untouched_updStream hj _).trans (untouched_updStream hj _)

theorem untouched_printRule {h : Header} {data : List Byte} {o : Bool} {f : List Byte} (hj : h.stream ≠ i)
    (e : printRule p h data s = .taken t o f) : Untouched i q s t := by
  unfold printRule at e
  split at e
  · cases e
  · cases e
    exact ((untouched_updStream hj _).trans (untouched_updStream hj _)).trans
      ((untouched_countIf hj _ _).trans (untouched_countIf hj _ _))

theorem untouched_senseStreamRule {m : StreamNo} {o : Bool} {f : List Byte} (hi : (s.stream i).binding = some q) (hq : q ≠ p)
    (e : senseStreamRule p m s = .taken t o f) : Untouched i q s t := by
  unfold senseStreamRule at e
  split at e
  · next hm =>
    have hmi : m ≠ i := by
      rintro rfl
      simp [hi, hq] at hm
    cases e
    exact (untouched_updStream hmi _).trans (untouched_updPort hq _)
  · cases e

theorem untouched_streamOpenRule {g : OpenOperands} {o : Bool} {f : List Byte} (hj : j ≠ i)
    (e : streamOpenRule p j g s = .taken t o f) : Untouched i q s t := by
  unfold streamOpenRule at e
  split at e
  · split at e
    · cases e
    · cases e
      exact untouched_updStream hj _
  · split at e
    · cases e
    · cases e
      exact untouched_updStream hj _

theorem untouched_streamReleaseRule {o : Bool} {f : List Byte} (hj : j ≠ i)
    (e : streamReleaseRule j s = .taken t o f) : Untouched i q s t := by
  unfold streamReleaseRule at e
  split at e
  · cases e
  · cases e
    exact untouched_updStream hj _

theorem untouched_formLoadRule {k : Fin 4} {form : Form} {o : Bool} {f : List Byte}
    (e : formLoadRule k form s = .taken t o f) : Untouched i q s t := by
  unfold formLoadRule at e
  split at e
  · cases e
  · cases e
    exact .of_eq rfl rfl

theorem untouched_engineSetRule {g : EngineSettings} {o : Bool} {f : List Byte}
    (e : engineSetRule g s = .taken t o f) : Untouched i q s t := by
  unfold engineSetRule at e
  split at e
  · cases e
    exact .of_eq rfl rfl
  · cases e

/-! ### The gate (R4, R6, R10) -/

/-- STREAM NOT OPEN is found only with an unbound stream (R6). -/
theorem unbound_of_streamNotOpen {bytes : List Byte} {long : Bool}
    (h : checkHeader s p bytes long = .error .streamNotOpen) (hi : namedStream bytes = some i) : (s.stream i).binding = none := by
  have hlength : ∀ c data, lengthRefusal c data ≠ some .streamNotOpen := by
    intro c data
    unfold lengthRefusal
    cases c <;> simp
  unfold checkHeader at h
  split at h
  case h_2 => cases h
  case h_1 b0 b1 b2 b3 data =>
    split at h; · cases h
    split at h; · cases h
    split at h
    case h_2 => cases h
    case h_1 m c hm hc =>
      obtain rfl : m = i := Option.some.inj (hm.symm.trans hi)
      split at h; · cases h
      split at h
      · next r hr =>
        cases h
        unfold bindingRefusal at hr
        split at hr
        · split at hr <;> cases hr
        · assumption
      · split at h
        · next r hr =>
          cases h
          exact absurd hr (hlength _ _)
        · split at h <;> cases h

/-- The refusal of a record that names stream `i` of the other port is counted there only as STREAM BUSY (R10). -/
theorem untouched_refuse (hi : (s.stream i).binding = some q) (hq : q ≠ p) {bytes : List Byte} {r : Reason}
    (hr : namedStream bytes = some i → r ≠ .streamNotOpen) : Untouched i q s (s.refuse p bytes r) := by
  refine Untouched.trans ?_ (untouched_updPort hq _)
  unfold State.countRefusal
  cases hnamed : namedStream bytes with
  | none => exact .refl
  | some m =>
    dsimp only
    split
    · next hcounted =>
      by_cases hm : m = i
      · subst hm
        have hbusy : r = .streamBusy := by
          rcases hcounted with hp | hb | ho
          · rw [hi] at hp
            exact absurd (Option.some.inj hp) hq
          · exact hb
          · exact absurd ho (hr hnamed)
        rw [hbusy]
        exact untouched_streamBusy
      · exact untouched_countCond hm _
    · exact .refl

/-- The end event of a record whose rule, on a stream that is not `i`, leaves stream `i` and port `q`. -/
theorem untouched_endEvent {α : Type} (hi : (s.stream i).binding = some q) (hq : q ≠ p) (row : Row)
    (operands : Header → Except Reason α) (rule : Header → α → State → Ruling)
    (hrule : ∀ h a u o f, h.stream ≠ i → rule h a (s.lowerFrame p) = .taken u o f → Untouched i q (s.lowerFrame p) u) :
    Untouched i q s (s.endEvent row p operands rule) := by
  have hlow : Untouched i q s (s.lowerFrame p) := untouched_updPort hq _
  rcases s.endEvent_cases row p operands rule with e | e | ⟨r, hr, e⟩ | ⟨h, hp, hend⟩
  · rw [e]
    exact .refl
  · exact e ▸ hlow
  · rw [e]
    refine hlow.trans (untouched_refuse (s := s.lowerFrame p) hi hq fun hnamed hrn => ?_)
    have hunbound := unbound_of_streamNotOpen (hrn ▸ hr) hnamed
    rw [hi] at hunbound
    cases hunbound
  · have hne : h.stream ≠ i := by
      intro hhi
      have hb := hp.binding
      rw [hhi, hi] at hb
      simp [hq] at hb
    rcases hend with ⟨r, e⟩ | e | ⟨a, u, o, f, ht, e⟩
    · rw [e]
      refine hlow.trans (untouched_refuse (s := s.lowerFrame p) hi hq fun hnamed => ?_)
      exact absurd (Option.some.inj (hp.named.symm.trans hnamed)) hne
    · exact e ▸ hlow.trans (untouched_updPort hq _)
    · exact e ▸ (hlow.trans (hrule h a u o f hne ht.ruled)).trans ((untouched_updStream hne _).trans (untouched_updPort hq _))

/-- Every record command leaves the other port's streams. -/
theorem exec_untouched (hi : (s.stream i).binding = some q) (hq : q ≠ p) :
    ∀ e ∈ recordCommands p, ∃ u, exec e.2 s = .next u ∧ Untouched i q s u := by
  have ends {α : Type} {row : Row} {operands : Header → Except Reason α} {rule : Header → α → State → Ruling} {c : Instr}
      (e : exec c s = .next (s.endEvent row p operands rule))
      (hrule : ∀ h a u o f, h.stream ≠ i → rule h a (s.lowerFrame p) = .taken u o f → Untouched i q (s.lowerFrame p) u) :
      ∃ u, exec c s = .next u ∧ Untouched i q s u := ⟨_, e, untouched_endEvent hi hq row operands rule hrule⟩
  have queued {α : Type} {row : Row} {operands : Header → Except Reason α} {body : α → Body} {c : Instr}
      (e : exec c s = .next (s.endEvent row p operands fun h a u => queueControl h (body a) u)) :
      ∃ u, exec c s = .next u ∧ Untouched i q s u := ends e fun h a u o f hne e => untouched_queueControl hne e
  have alone {α : Type} {row : Row} {operands : Header → Except Reason α} {effect : Header → α → State → State}
      {frames : State → List Byte} {c : Instr}
      (e : exec c s = .next (s.endEvent row p operands fun h a u => .taken (effect h a u) false (frames u)))
      (heffect : ∀ (h : Header) a u, h.stream ≠ i → Untouched i q u (effect h a u)) :
      ∃ u, exec c s = .next u ∧ Untouched i q s u := ends e fun h a u o f hne e => by
    cases e
    exact heffect h a _ hne
  unfold recordCommands
  -- one entry of the list after the other; the queued controls at its end share one rule
  refine List.forall_mem_cons.2 ⟨ends rfl fun h a u o f hne e => untouched_printRule hne e, ?mark⟩
  refine List.forall_mem_cons.2 ⟨queued (body := Body.mark) rfl, ?close⟩
  refine List.forall_mem_cons.2 ⟨ends rfl fun h a u o f hne e => untouched_closeRule hne e, ?senseDevice⟩
  refine List.forall_mem_cons.2 ⟨alone (frames := fun u => u.deviceFrame p) rfl fun _ _ _ _ => untouched_updPort hq _, ?senseStream⟩
  refine List.forall_mem_cons.2 ⟨ends rfl fun h a u o f hne e => untouched_senseStreamRule hi hq e, ?senseMark⟩
  refine List.forall_mem_cons.2 ⟨alone (frames := fun u => (u.port p).markFrame) rfl fun _ _ _ _ => untouched_updPort hq _, ?streamOpen⟩
  refine List.forall_mem_cons.2 ⟨ends rfl fun h a u o f hne e => untouched_streamOpenRule hne e, ?streamRelease⟩
  refine List.forall_mem_cons.2 ⟨ends rfl fun h a u o f hne e => untouched_streamReleaseRule hne e, ?cancel⟩
  refine List.forall_mem_cons.2 ⟨alone (frames := fun _ => []) rfl fun _ _ _ hne => untouched_cancelStream hne, ?formLoad⟩
  refine List.forall_mem_cons.2 ⟨ends rfl fun h a u o f hne e => untouched_formLoadRule e, ?formSelect⟩
  refine List.forall_mem_cons.2 ⟨alone (frames := fun _ => []) rfl fun _ _ _ hne => untouched_updStream hne _, ?portSet⟩
  refine List.forall_mem_cons.2 ⟨alone (frames := fun _ => []) rfl fun _ _ _ _ => untouched_updPort hq _, ?stop⟩
  refine List.forall_mem_cons.2 ⟨alone (frames := fun _ => []) rfl fun _ _ _ _ => untouched_stopRequest _, ?resume⟩
  refine List.forall_mem_cons.2 ⟨alone (frames := fun _ => []) rfl fun _ _ _ _ => untouched_start, ?engineSet⟩
  refine List.forall_mem_cons.2 ⟨ends rfl fun h a u o f hne e => untouched_engineSetRule e, ?queuedControls⟩
  repeat refine List.forall_mem_cons.2 ⟨queued (body := id) rfl, ?_⟩
  exact List.forall_mem_nil _

end

/-- Settles O60. -/
theorem recordsReachOnlyTheirPortsStreams : Obligations.RecordsReachOnlyTheirPortsStreams := by
  unfold Obligations.RecordsReachOnlyTheirPortsStreams
  intro s t p q cls c i hc hq hi ht
  obtain ⟨u, hu, h⟩ := exec_untouched hi hq (cls, c) hc
  obtain rfl : u = t := Host.Outcome.next.inj (hu.symm.trans ht)
  exact ⟨h.stream, h.counts, h.wait, h.taking, h.pages, h.recovery, h.slot, h.port⟩

end Sys2Proof.Machine
end

section
/-! The Carriage Shadow (R25 to R42): the motions of a PRINT record, and the immediate controls FORM LOAD, FORM SELECT, PORT SET and
ENGINE SET. -/

namespace Sys2Proof.Machine

/-! ### Motion (R33 to R38) -/

/-- A form boundary (R37): the pending select, if any, comes into force. -/
theorem Carriage.boundary_eq (c : Carriage) :
    c.boundary =
      { form := (c.pending.map Select.form).getD c.form, width := (c.pending.map Select.width).getD c.width
        pending := none, line := c.line, sequence := c.sequence + 1, started := false } := by
  obtain ⟨form, width, pending, line, sequence, started⟩ := c
  cases pending <;> rfl

/-- SPACE n within the form (R34). -/
theorem Carriage.space_of_le {c : Carriage} {forms : Bank Form 4} {n : Nat} (h : c.line + n ≤ (c.formOf forms).length) :
    c.space forms n =
      { after := { c with line := c.line + n }
        overflow := decide (c.line < (c.formOf forms).overflowLine ∧ (c.formOf forms).overflowLine ≤ c.line + n)
        unresolved := false } := if_pos h

/-- SPACE n beyond the form's last line (R34, R37). -/
theorem Carriage.space_of_lt {c : Carriage} {forms : Bank Form 4} {n : Nat} (h : (c.formOf forms).length < c.line + n) :
    c.space forms n =
      { after := { c.boundary with line := c.line + n - (c.formOf forms).length }
        overflow := decide (c.line < (c.formOf forms).overflowLine), unresolved := false } := if_neg (Nat.not_le.2 h)

/-- Settles O13. -/
theorem spaceMotion : Obligations.SpaceMotion := by
  unfold Obligations.SpaceMotion
  intro c forms f
  refine ⟨rfl, fun n => ⟨Carriage.space_of_le, fun h => ?_⟩⟩
  have hspace := Carriage.space_of_lt (c := c) (forms := forms) h
  rw [Carriage.boundary_eq] at hspace
  exact hspace

/-- The first stop of a class from a line on is the entry that no entry between stops, in a list that ascends (R25, R35). -/
theorem Form.stopFrom_eq_some {f : Form} (hasc : f.stops.Pairwise fun a b => a.line < b.line) {first c : Nat} {e : StopEntry}
    (he : e ∈ f.stops) (hline : first ≤ e.line) (hclass : e.classes.getLsbD c = true)
    (hfirst : ∀ d ∈ f.stops, first ≤ d.line → d.line < e.line → d.classes.getLsbD c = false) :
    f.stopFrom first c = some e.line := by
  obtain ⟨above, below, hsplit⟩ := List.append_of_mem he
  have hfound : f.stops.find? (fun d => decide (first ≤ d.line) && d.stops c) = some e := by
    refine List.find?_eq_some_iff_append.2 ⟨by simp [hline, StopEntry.stops, hclass], above, below, hsplit, fun d hd => ?_⟩
    have hlt : d.line < e.line := by
      rw [hsplit] at hasc
      exact (List.pairwise_append.1 hasc).2.2 d hd e List.mem_cons_self
    have hskip := hfirst d (by rw [hsplit]; exact List.mem_append_left _ hd)
    simp only [StopEntry.stops, Bool.not_eq_true', Bool.and_eq_false_iff, decide_eq_false_iff_not]
    exact (em (first ≤ d.line)).elim (fun h => .inr (hskip h hlt)) .inl
  rw [Form.stopFrom, hfound]
  rfl

theorem Form.stopFrom_eq_none {f : Form} {first c : Nat} (h : ∀ e ∈ f.stops, first ≤ e.line → e.classes.getLsbD c = false) :
    f.stopFrom first c = none := by
  rw [Form.stopFrom, List.find?_eq_none.2, Option.map_none]
  intro e he
  simpa [StopEntry.stops] using h e he

/-- SKIP c to a stop of the form in force (R35). -/
theorem Carriage.skip_of_below {c : Carriage} {forms : Bank Form 4} {cls l : Nat}
    (h : (c.formOf forms).stopFrom (c.line + 1) cls = some l) :
    c.skip forms cls = { after := { c with line := l }, overflow := false, unresolved := false } := by
  rw [Carriage.skip, h]

/-- SKIP c over a form boundary to a stop of the form begun (R36). -/
theorem Carriage.skip_of_begun {c : Carriage} {forms : Bank Form 4} {cls l : Nat}
    (h : (c.formOf forms).stopFrom (c.line + 1) cls = none) (hl : (c.boundary.formOf forms).stopFrom 1 cls = some l) :
    c.skip forms cls = { after := { c.boundary with line := l }, overflow := false, unresolved := false } := by
  simp only [Carriage.skip, h, hl]

/-- SKIP c without a stop in either form (R36): line 1 of the form begun, unresolved. -/
theorem Carriage.skip_of_none {c : Carriage} {forms : Bank Form 4} {cls : Nat}
    (h : (c.formOf forms).stopFrom (c.line + 1) cls = none) (hnone : (c.boundary.formOf forms).stopFrom 1 cls = none) :
    c.skip forms cls = { after := { c.boundary with line := 1 }, overflow := false, unresolved := true } := by
  simp only [Carriage.skip, h, hnone]

/-- Settles O14. -/
theorem skipMotion : Obligations.SkipMotion := by
  unfold Obligations.SkipMotion
  intro c forms cls hasc hfrom begun target
  have hbegun : c.boundary = begun := c.boundary_eq
  -- a target is the stop that the search from the line below finds
  have hsearch : ∀ k above l, target k above l → (forms.get k).stopFrom (above + 1) cls = some l := by
    rintro k above l ⟨⟨e, he, rfl, hclass⟩, habove, hfirst⟩
    exact Form.stopFrom_eq_some (hasc k) he habove hclass hfirst
  refine ⟨fun l hl => Carriage.skip_of_below (hsearch _ _ _ hl), fun hnone => ?_⟩
  have hleft : (c.formOf forms).stopFrom (c.line + 1) cls = none := Form.stopFrom_eq_none hnone
  rw [← hbegun]
  refine ⟨fun l hl => Carriage.skip_of_begun hleft (hsearch _ _ _ hl), fun habsent => Carriage.skip_of_none hleft ?_⟩
  exact Form.stopFrom_eq_none fun e he _ => habsent e he

/-! ### An immediate control whose operands are in range -/

section
variable {α : Type} {s : State} {p : Port} {code : Byte} {operands : List Byte → Except Reason α}
  {rule : Header → α → State → Ruling} {i : StreamNo} {carriage : Byte} {rest : List Byte} {a : α}

/-- Its rule takes it. -/
theorem State.endEvent_immediate_taken {act : State → State} {overflow : Bool} {frames : List Byte}
    (hrec : s.ControlReceived p i carriage false false (code :: rest)) (hread : operands (code :: rest) = .ok a)
    (hrule : rule (controlHeader i false false (code :: rest)) a (s.lowerFrame p) = .taken (act (s.lowerFrame p)) overflow frames) :
    s.endEvent (.control code) p (checkControl code true operands) rule = s.answeredTaken p i act overflow frames := by
  rw [s.endEvent_bound_control _ p code true operands rule i carriage false false rest hrec (fitsControl_code _ _) fun _ => ⟨rfl, rfl⟩,
    hread]
  dsimp only
  rw [hrule]
  rfl

/-- Its rule refuses it. -/
theorem State.endEvent_immediate_refused {r : Reason}
    (hrec : s.ControlReceived p i carriage false false (code :: rest)) (hread : operands (code :: rest) = .ok a)
    (hrule : rule (controlHeader i false false (code :: rest)) a (s.lowerFrame p) = .refused r) :
    s.endEvent (.control code) p (checkControl code true operands) rule = s.answeredRefused p (some i) r := by
  rw [s.endEvent_bound_control _ p code true operands rule i carriage false false rest hrec (fitsControl_code _ _) fun _ => ⟨rfl, rfl⟩,
    hread]
  dsimp only
  rw [hrule]

end

/-! ### FORM LOAD (R27, R28) -/

/-- FORM IN USE, stream by stream (R28). -/
theorem State.formInUse_iff (s : State) (f : Fin 4) :
    s.formInUse f = true ↔ ∃ j : StreamNo, (s.stream j).binding ≠ none ∧ (s.stream j).carriage.form = f ∧
      ((s.stream j).carriage.line ≠ 1 ∨ (s.stream j).carriage.started = true) := by
  rw [State.formInUse, List.any_eq_true]
  constructor
  · rintro ⟨t, ht, hblocks⟩
    obtain ⟨j, rfl⟩ := s.streams.exists_get_of_mem ht
    exact ⟨j, of_decide_eq_true hblocks⟩
  · rintro ⟨j, hblocks⟩
    exact ⟨s.stream j, s.streams.get_mem j, decide_eq_true hblocks⟩

/-- Settles O20. -/
theorem formLoadReplacesTheForm : Obligations.FormLoadReplacesTheForm := by
  unfold Obligations.FormLoadReplacesTheForm
  intro s p i carriage rest data hrec hlen hrange f inUse
  have hread := readFormLoad_readsAs.value data hlen hrange
  have huse : (s.lowerFrame p).formInUse f = true ↔ inUse := State.formInUse_iff _ f
  refine ⟨fun h => congrArg Host.Outcome.next ?_, fun h => congrArg Host.Outcome.next ?_⟩
  · exact State.endEvent_immediate_refused hrec hread (if_pos (huse.2 h))
  · exact State.endEvent_immediate_taken hrec hread (if_neg (huse.not.2 h))

/-! ### FORM SELECT, PORT SET and ENGINE SET (R41, R42, R151 to R153, R181) -/

/-- A FORM SELECT as one update of its stream (R42). -/
theorem formSelectRule_eq (i : StreamNo) (sel : Select) (s : State) :
    formSelectRule i sel s = .taken (s.updStream i fun t =>
      { t with
        carriage :=
          if t.carriage.line = 1 ∧ t.carriage.started = false then
            { t.carriage with form := sel.form, width := sel.width, pending := none }
          else { t.carriage with pending := some sel } }) false [] :=
  congrArg (Ruling.taken · false []) (State.updStream_congr rfl)

/-- Settles O21. -/
theorem formSelectPortSetAndEngineSet : Obligations.FormSelectPortSetAndEngineSet := by
  unfold Obligations.FormSelectPortSetAndEngineSet
  intro s p i carriage
  refine ⟨fun f w hrec hf hw hw' => congrArg Host.Outcome.next ?_, fun v hrec hv => congrArg Host.Outcome.next ?_,
    fun rest hrec hlen hrange => ?_⟩
  · exact State.endEvent_immediate_taken hrec (readFormSelect_readsAs.value _ rfl ⟨hf, hw, hw'⟩) (formSelectRule_eq i _ _)
  · exact State.endEvent_immediate_taken hrec (readPortSet_readsAs.value _ rfl hv) rfl
  · have hread := readEngineSet_readsAs.value _ (by simp [requiredLength, hlen]) hrange
    refine ⟨fun hrun => congrArg Host.Outcome.next ?_, fun hrun => congrArg Host.Outcome.next ?_⟩
    · exact State.endEvent_immediate_refused hrec hread (if_neg hrun)
    · exact State.endEvent_immediate_taken hrec hread (if_pos hrun)

end Sys2Proof.Machine
end

section
/-! What an operation leaves of the work in the part: the lengths the Form Table holds (R25), the queued records, the open buffers and the
pages in the Page Store. Most operations gain none of these; the store law (R64, R86, R88) goes over to what they leave. -/

namespace Sys2Proof.Machine

/-! ### The store law in its two parts -/

/-- The line slots a page takes up: its lines and its reservation (R88). -/
def Page.load (p : Page) : Nat := p.lines.length + p.reservation

/-- The store law's part on the pages (R64, R86, R88), `opened` pages having been opened since power-on. -/
structure PagesLaw (pages : List Page) (opened : Nat) : Prop where
  records : pages.length ≤ 64
  slots : (pages.map Page.load).sum ≤ 4096
  oneOpen : ∀ i : StreamNo, (pages.filter fun p => decide (p.stream = i ∧ p.state = .opened)).length ≤ 1
  ordered : pages.Pairwise fun p q => p.serial < q.serial
  below : ∀ p ∈ pages, p.serial < opened

/-- The store law's part on the lengths a page can be opened with (R25). -/
structure State.LengthLaw (s : State) : Prop where
  forms : ∀ f : Fin 4, formLength (s.forms.get f).length
  queue : ∀ i : StreamNo, ∀ r ∈ (s.stream i).queue, formLength r.length
  buffer : ∀ i : StreamNo, ∀ b ∈ (s.stream i).buffer, formLength b.length

theorem State.load_sum (s : State) : (s.pages.map Page.load).sum = s.usedSlots + s.reserved := List.sum_map_add

theorem State.storeLaw_iff (s : State) : s.StoreLaw ↔ PagesLaw s.pages s.pagesOpened ∧ s.LengthLaw :=
  ⟨fun ⟨h1, h2, h3, h4, h5, h6, h7, h8⟩ => ⟨⟨h1, s.load_sum ▸ h2, h3, h4, h5⟩, h6, h7, h8⟩,
    fun ⟨⟨h1, h2, h3, h4, h5⟩, h6, h7, h8⟩ => ⟨h1, s.load_sum ▸ h2, h3, h4, h5, h6, h7, h8⟩⟩

/-! ### Pages that stand for pages -/

/-- Page `q` bears the name of `p`, and is not OPEN where `p` was not. -/
structure Page.Stands (q p : Page) : Prop where
  ref : q.ref = p.ref
  opened : q.state = .opened → p.state = .opened

/-- Page `q` is what is left of `p`: besides, it holds the same lines and no greater reservation. -/
structure Page.Remnant (q p : Page) : Prop extends q.Stands p where
  lines : q.lines = p.lines
  reservation : q.reservation ≤ p.reservation

theorem Page.Stands.stream {q p : Page} (h : q.Stands p) : q.stream = p.stream := congrArg PageRef.stream h.ref

theorem Page.Stands.serial {q p : Page} (h : q.Stands p) : q.serial = p.serial := congrArg PageRef.serial h.ref

theorem Page.Remnant.rfl {p : Page} : p.Remnant p := ⟨⟨.refl _, id⟩, .refl _, le_rfl⟩

theorem Page.Remnant.trans {p q r : Page} (h : r.Remnant q) (k : q.Remnant p) : r.Remnant p where
  ref := h.ref.trans k.ref
  opened := k.opened ∘ h.opened
  lines := h.lines.trans k.lines
  reservation := h.reservation.trans k.reservation

/-- Some of the pages `ps`, in their order, each left as `R` says. -/
abbrev PagesOf (R : Page → Page → Prop) (qs ps : List Page) : Prop := qs.SublistForall₂ R ps

theorem PagesOf.rfl {ps : List Page} : PagesOf Page.Remnant ps ps :=
  List.sublistForall₂_iff.2 ⟨ps, List.forall₂_same.2 fun _ _ => .rfl, .refl ps⟩

theorem PagesOf.trans {ps qs rs : List Page} (h : PagesOf Page.Remnant rs qs) (k : PagesOf Page.Remnant qs ps) :
    PagesOf Page.Remnant rs ps :=
  haveI : IsTrans Page Page.Remnant := ⟨fun _ _ _ => .trans⟩
  List.SublistForall₂.is_trans.trans _ _ _ h k

theorem PagesOf.map {R : Page → Page → Prop} {f : Page → Page} (hf : ∀ p, R (f p) p) (ps : List Page) : PagesOf R (ps.map f) ps :=
  List.sublistForall₂_map_left_iff.2 (List.sublistForall₂_iff.2 ⟨ps, List.forall₂_same.2 fun p _ => hf p, .refl ps⟩)

theorem PagesOf.filter (keep : Page → Bool) (ps : List Page) : PagesOf Page.Remnant (ps.filter keep) ps :=
  List.sublistForall₂_iff.2 ⟨_, List.forall₂_same.2 fun _ _ => .rfl, List.filter_sublist⟩

theorem PagesOf.serials {qs ps : List Page} (h : PagesOf Page.Stands qs ps) : (qs.map Page.serial).Sublist (ps.map Page.serial) := by
  induction h with
  | nil => exact List.nil_sublist _
  | cons hq _ ih => simpa [hq.serial] using ih
  | cons_right _ ih => exact ih.cons _

theorem PagesOf.opened_length {qs ps : List Page} (h : PagesOf Page.Stands qs ps) (i : StreamNo) :
    (qs.filter fun p => decide (p.stream = i ∧ p.state = .opened)).length
      ≤ (ps.filter fun p => decide (p.stream = i ∧ p.state = .opened)).length := by
  simp only [← List.countP_eq_length_filter]
  induction h with
  | nil => exact Nat.zero_le _
  | @cons q p _ _ hq _ ih =>
    have himp : q.stream = i ∧ q.state = .opened → p.stream = i ∧ p.state = .opened := fun ⟨hs, ho⟩ =>
      ⟨hq.stream ▸ hs, hq.opened ho⟩
    rw [List.countP_cons, List.countP_cons]
    refine Nat.add_le_add ih ?_
    by_cases h : q.stream = i ∧ q.state = .opened
    · rw [if_pos (decide_eq_true h), if_pos (decide_eq_true (himp h))]
    · rw [if_neg (by simpa using h)]
      exact Nat.zero_le _
  | cons_right _ ih => exact ih.trans (List.Sublist.countP_le (List.sublist_cons_self _ _))

theorem PagesOf.load_le {qs ps : List Page} (h : PagesOf Page.Remnant qs ps) : (qs.map Page.load).sum ≤ (ps.map Page.load).sum := by
  induction h with
  | nil => exact Nat.zero_le _
  | @cons q p _ _ hq _ ih =>
    have : q.load ≤ p.load := by simp only [Page.load, hq.lines]; exact Nat.add_le_add_left hq.reservation _
    simp only [List.map_cons, List.sum_cons]
    omega
  | cons_right _ ih => exact ih.trans (by simp)

theorem PagesOf.stands {qs ps : List Page} (h : PagesOf Page.Remnant qs ps) : PagesOf Page.Stands qs ps := by
  induction h with
  | nil => exact .nil
  | cons hq _ ih => exact .cons hq.toStands ih
  | cons_right _ ih => exact .cons_right ih

/-- Pages that stand for pages under the law are under it while they take up no more than the line slots. -/
theorem PagesLaw.of_stands {qs ps : List Page} {n : Nat} (h : PagesOf Page.Stands qs ps) (hps : PagesLaw ps n)
    (hslots : (qs.map Page.load).sum ≤ 4096) : PagesLaw qs n where
  records := by
    have := h.serials.length_le
    simp only [List.length_map] at this
    exact this.trans hps.records
  slots := hslots
  oneOpen i := (h.opened_length i).trans (hps.oneOpen i)
  ordered := List.pairwise_map.1 ((List.pairwise_map.2 hps.ordered).sublist h.serials)
  below q hq := by
    obtain ⟨p, hp, e⟩ := List.mem_map.1 (h.serials.subset (List.mem_map_of_mem hq))
    exact e ▸ hps.below p hp

theorem PagesLaw.of_remnant {qs ps : List Page} {n : Nat} (h : PagesOf Page.Remnant qs ps) (hps : PagesLaw ps n) : PagesLaw qs n :=
  hps.of_stands h.stands (h.load_le.trans hps.slots)

/-! ### What an operation leaves of the work -/

/-- The Form Table of `t` is that of `s`, and its queued records and open buffers are among those of `s`, stream by stream. -/
structure State.WorkFrom (t s : State) : Prop where
  forms : t.forms = s.forms
  queue : ∀ i, (t.stream i).queue ⊆ (s.stream i).queue
  buffer : ∀ i, ∀ b ∈ (t.stream i).buffer, b ∈ (s.stream i).buffer

/-- The work in `t` is what is left of the work in `s`: besides, its pages are what is left of pages of `s`, and none was opened. -/
structure State.Remnant (t s : State) : Prop extends t.WorkFrom s where
  pages : PagesOf Page.Remnant t.pages s.pages
  pagesOpened : t.pagesOpened = s.pagesOpened

theorem State.WorkFrom.rfl {s : State} : s.WorkFrom s := ⟨.refl _, fun _ => List.Subset.refl _, fun _ _ => id⟩

theorem State.WorkFrom.trans {t u v : State} (h : t.WorkFrom u) (k : u.WorkFrom v) : t.WorkFrom v where
  forms := h.forms.trans k.forms
  queue i := List.Subset.trans (h.queue i) (k.queue i)
  buffer i b hb := k.buffer i b (h.buffer i b hb)

theorem State.WorkFrom.lengthLaw {t s : State} (h : t.WorkFrom s) (hs : s.LengthLaw) : t.LengthLaw where
  forms f := h.forms ▸ hs.forms f
  queue i r hr := hs.queue i r (h.queue i hr)
  buffer i b hb := hs.buffer i b (h.buffer i b hb)

theorem State.Remnant.rfl {s : State} : s.Remnant s := ⟨.rfl, .rfl, .refl _⟩

theorem State.Remnant.trans {t u v : State} (h : t.Remnant u) (k : u.Remnant v) : t.Remnant v where
  toWorkFrom := h.toWorkFrom.trans k.toWorkFrom
  pages := h.pages.trans k.pages
  pagesOpened := h.pagesOpened.trans k.pagesOpened

/-- What is left of a state under the store law is under it. -/
theorem State.Remnant.storeLaw {t s : State} (h : t.Remnant s) (hs : s.StoreLaw) : t.StoreLaw := by
  rw [State.storeLaw_iff] at hs ⊢
  obtain ⟨hpages, hlengths⟩ := hs
  exact ⟨h.pagesOpened ▸ hpages.of_remnant h.pages, h.toWorkFrom.lengthLaw hlengths⟩

/-- The streams' queues and buffers as they were, or fewer, with the rest of the work as it was. -/
theorem State.Remnant.of_work {t s : State} (h : t.WorkFrom s) (hp : t.pages = s.pages) (ho : t.pagesOpened = s.pagesOpened) :
    t.Remnant s := ⟨h, hp ▸ .rfl, ho⟩

/-- Every stream with the queue and the buffer it had. -/
theorem State.WorkFrom.of_kept {t s : State} (hforms : t.forms = s.forms) (hqueue : ∀ i, (t.stream i).queue = (s.stream i).queue)
    (hbuffer : ∀ i, (t.stream i).buffer = (s.stream i).buffer) : t.WorkFrom s :=
  ⟨hforms, fun i => (hqueue i).symm ▸ List.Subset.refl _, fun i _ hb => hbuffer i ▸ hb⟩

/-- A change elsewhere than in the forms, the streams and the pages. -/
theorem State.Remnant.of_frame {t s : State}
    (h : t = { t with forms := s.forms, streams := s.streams, pages := s.pages, pagesOpened := s.pagesOpened }) : t.Remnant s := by
  rw [h]
  exact .of_work (.of_kept (.refl _) (fun _ => .refl _) fun _ => .refl _) (.refl _) (.refl _)

theorem State.workFrom_updStream {s : State} {i : StreamNo} {f : Stream → Stream} (hq : (f (s.stream i)).queue ⊆ (s.stream i).queue)
    (hb : ∀ b ∈ (f (s.stream i)).buffer, b ∈ (s.stream i).buffer) : (s.updStream i f).WorkFrom s where
  forms := rfl
  queue j := by
    rw [State.stream_updStream]
    split
    · next e => exact e ▸ hq
    · exact List.Subset.refl _
  buffer j := by
    rw [State.stream_updStream]
    split
    · next e => exact e ▸ hb
    · exact fun _ => id

/-- An update of one stream that leaves its queue and its buffer. -/
theorem State.workFrom_updStream_kept {s : State} {i : StreamNo} {f : Stream → Stream}
    (hq : (f (s.stream i)).queue = (s.stream i).queue) (hb : (f (s.stream i)).buffer = (s.stream i).buffer) : (s.updStream i f).WorkFrom s :=
  State.workFrom_updStream (hq ▸ List.Subset.refl _) fun _ h => hb ▸ h

theorem State.remnant_updStream_kept {s : State} {i : StreamNo} {f : Stream → Stream}
    (hq : (f (s.stream i)).queue = (s.stream i).queue) (hb : (f (s.stream i)).buffer = (s.stream i).buffer) : (s.updStream i f).Remnant s :=
  .of_work (State.workFrom_updStream_kept hq hb) rfl rfl

theorem State.remnant_mapPages (s : State) {f : Page → Page} (hf : ∀ p, (f p).Remnant p) :
    ({ s with pages := s.pages.map f } : State).Remnant s :=
  ⟨.of_kept rfl (fun _ => rfl) fun _ => rfl, .map hf _, rfl⟩

theorem State.remnant_updPage (s : State) (r : PageRef) {f : Page → Page} (hf : ∀ p, (f p).Remnant p) : (s.updPage r f).Remnant s :=
  s.remnant_mapPages fun p => by
    split
    · exact hf p
    · exact .rfl

theorem State.remnant_updPort (s : State) (p : Port) (f : PortState → PortState) : (s.updPort p f).Remnant s := .of_frame rfl

theorem State.remnant_setWait (s : State) (i : StreamNo) (w : Wait) : (s.setWait i w).Remnant s :=
  State.remnant_updStream_kept rfl rfl

/-! ### Conditions and the run state -/

theorem State.remnant_countCond (s : State) (i : StreamNo) (k : Cond) : (s.countCond i k).Remnant s :=
  .of_work
    (.of_kept (s.countCond_forms i k) (fun j => by rw [State.stream_countCond]; split <;> rfl)
      fun j => by rw [State.stream_countCond]; split <;> rfl)
    (s.countCond_pages i k) (by rw [State.countCond_frame])

theorem State.remnant_countIf (s : State) (b : Bool) (i : StreamNo) (k : Cond) : (s.countIf b i k).Remnant s := by
  cases b with
  | false => exact .rfl
  | true => exact s.remnant_countCond i k

theorem State.remnant_deviceCond (s : State) (d : DevCond) : (s.deviceCond d).Remnant s := .of_frame (by rw [State.deviceCond_eq])

theorem State.remnant_testStopped (s : State) : s.testStopped.Remnant s := .of_frame (by rw [State.testStopped_frame])

theorem State.remnant_stopRequest (s : State) (c : Cause) : (s.stopRequest c).Remnant s := .of_frame (by rw [State.stopRequest_frame])

theorem State.remnant_engineCause (s : State) (c : Cause) : (s.engineCause c).Remnant s := .of_frame (by rw [State.engineCause_frame])

theorem State.remnant_start (s : State) : s.start.Remnant s := .of_frame (by rw [State.start_frame])

/-! ### The Page Store -/

/-- An end of waits, stream by stream. -/
theorem State.Remnant.of_freed {t s : State} {ends : StreamNo → Wait → Bool}
    (hstream : ∀ i, t.stream i = (s.stream i).freed (ends i)) (hframe : t = { s with streams := t.streams }) : t.Remnant s := by
  refine .of_work (.of_kept ?_ (fun i => ?_) fun i => ?_) ?_ ?_
  · rw [hframe]
  · rw [hstream, Stream.freed_queue]
  · rw [hstream, Stream.freed_buffer]
  · rw [hframe]
  · rw [hframe]

theorem State.remnant_endStoreWaits (s : State) : s.endStoreWaits.Remnant s :=
  .of_freed (ends := fun _ w => decide (w = .store))
    (fun i => by rw [State.stream_endStoreWaits]; simp only [Stream.freed, decide_eq_true_eq]) s.endStoreWaits_frame

theorem State.remnant_endStoreWaits_endPinWaits (s : State) : s.endPinWaits.endStoreWaits.Remnant s :=
  .of_freed s.stream_endStoreWaits_endPinWaits rfl

theorem State.remnant_discardPages (s : State) (gone : Page → Bool) : (s.discardPages gone).Remnant s := by
  unfold State.discardPages
  dsimp only
  split
  · exact .rfl
  · exact (State.remnant_endStoreWaits_endPinWaits _).trans ⟨.of_kept rfl (fun _ => rfl) fun _ => rfl, .filter _ _, rfl⟩

theorem State.remnant_freePage (s : State) (r : PageRef) : (s.freePage r).Remnant s :=
  (State.remnant_endStoreWaits_endPinWaits _).trans ⟨.of_kept rfl (fun _ => rfl) fun _ => rfl, .filter _ _, rfl⟩

theorem State.remnant_closePage (s : State) (i : StreamNo) : (s.closePage i).Remnant s := by
  unfold State.closePage
  split
  · exact .rfl
  · next p _ =>
    have hclosed : ((s.updPage p.ref fun q => { q with state := .closed, reservation := 0 }).updStream i
        fun t => { t with pageAge := .stopped }).Remnant s :=
      (State.remnant_updStream_kept rfl rfl).trans (s.remnant_updPage _ fun _ => ⟨⟨rfl, nofun⟩, rfl, Nat.zero_le _⟩)
    dsimp only
    split
    · exact (State.remnant_endStoreWaits _).trans hclosed
    · exact hclosed

theorem State.remnant_deliverMark (s : State) (i : StreamNo) (id : Word16) (n : Nat) (k : Stacker) :
    (s.deliverMark i id n k).Remnant s := by
  unfold State.deliverMark
  split
  · exact .rfl
  · exact (State.remnant_updPort _ _ _).trans (State.remnant_updStream_kept rfl rfl)

theorem State.remnant_deliverMarks (s : State) (i : StreamNo) (n : Nat) (k : Stacker) (ids : List Word16) :
    (s.deliverMarks i n k ids).Remnant s := by
  induction ids generalizing s with
  | nil => exact .rfl
  | cons id ids ih => exact (ih _).trans (s.remnant_deliverMark i id n k)

theorem State.remnant_attachMark (s : State) (i : StreamNo) (id : Word16) : (s.attachMark i id).Remnant s := by
  unfold State.attachMark
  split
  · split
    · exact s.remnant_updPage _ fun _ => ⟨⟨rfl, fun h => h⟩, rfl, le_rfl⟩
    · exact s.remnant_countCond i _
  · exact s.remnant_deliverMark i id 0 _

theorem State.remnant_completeSync (s : State) (i : StreamNo) : (s.completeSync i).Remnant s :=
  (State.remnant_setWait _ i _).trans <| (State.remnant_countCond _ i _).trans <| State.remnant_updStream_kept rfl rfl

theorem State.remnant_syncPages (s : State) (i : StreamNo) : (s.syncPages i).Remnant s := by
  have hsync : ∀ (u : State) r, ((u.updPage r fun q => { q with syncPoint := true }).setWait i .sync).Remnant u := fun u r =>
    (State.remnant_setWait _ i _).trans (u.remnant_updPage r fun _ => ⟨⟨rfl, id⟩, rfl, le_rfl⟩)
  unfold State.syncPages
  split
  · exact (hsync _ _).trans (s.remnant_closePage i)
  · split
    · exact hsync _ _
    · exact s.remnant_completeSync i

theorem State.remnant_stackPage (s : State) (p : Page) : (s.stackPage p).Remnant s := by
  have hcounted : ((s.deliverMarks p.stream p.number p.stacker p.marks).updStream p.stream
      fun t => { t with pagesStacked := t.pagesStacked + 1 }).Remnant s :=
    (State.remnant_updStream_kept rfl rfl).trans (s.remnant_deliverMarks _ _ _ _)
  refine (State.remnant_freePage _ _).trans ?_
  split
  · exact (State.remnant_completeSync _ _).trans hcounted
  · exact hcounted

theorem State.remnant_confirmCopy (s : State) (r : PageRef) : (s.confirmCopy r).Remnant s := by
  unfold State.confirmCopy
  split
  · exact .rfl
  · have hrisen := s.remnant_updPage r (f := fun q => { q with copiesStacked := q.copiesStacked + 1 }) fun _ =>
      ⟨⟨rfl, id⟩, rfl, le_rfl⟩
    dsimp only
    split
    · exact (State.remnant_stackPage _ _).trans hrisen
    · exact hrisen

/-! ### Overlay loads and tables -/

theorem State.remnant_abandonLoad (s : State) (i : StreamNo) : (s.abandonLoad i).Remnant s := .of_frame (by rw [State.abandonLoad_frame])

theorem State.remnant_beginTest (s : State) (i : StreamNo) (k : Fin 8) : (s.beginTest i k).1.Remnant s := by
  have hone : ((s.abandonLoad i).countIf (s.openLoad i).isSome i .overlaySequence).Remnant s :=
    (State.remnant_countIf _ _ _ _).trans (s.remnant_abandonLoad i)
  unfold State.beginTest
  dsimp only
  rw [apply_ite Prod.fst, ite_self]
  split
  · split
    · exact (State.remnant_closePage _ i).trans hone
    · exact hone
  · exact hone

theorem State.remnant_beginLoad (s : State) (i : StreamNo) (k : Fin 8) (n : Nat) : (s.beginLoad i k n).Remnant s := by
  unfold State.beginLoad
  refine State.Remnant.trans (.of_frame rfl) ?_
  split
  · split
    · exact .rfl
    · exact s.remnant_countCond _ _
  · exact .rfl

theorem State.remnant_readySlot (s : State) (i : StreamNo) (k : Fin 8) : (s.readySlot i k).Remnant s :=
  (State.remnant_countIf _ _ _ _).trans (.of_frame rfl)

theorem State.remnant_completeLoad (s : State) (i : StreamNo) : (s.completeLoad i).Remnant s := by
  unfold State.completeLoad
  split
  · exact .rfl
  · exact s.remnant_readySlot i _

theorem State.remnant_endLoad (s : State) (i : StreamNo) : (s.endLoad i).Remnant s := by
  unfold State.endLoad
  split
  · exact s.remnant_countCond i _
  · exact s.remnant_readySlot i _

theorem State.remnant_addEntries (s : State) (i : StreamNo) (entries : List OverlayEntry) : (s.addEntries i entries).Remnant s := by
  unfold State.addEntries
  split
  · exact s.remnant_countCond i _
  · split
    · exact s.remnant_countCond i _
    · exact (State.remnant_countIf _ _ _ _).trans (.of_frame rfl)

theorem State.remnant_reexamineFence (s : State) (k : Fin 2) : (s.reexamineFence k).Remnant s :=
  .of_freed (s.stream_reexamineFence_freed k) rfl

theorem State.remnant_fenceTest (s : State) (i : StreamNo) (k : Fin 2) : (s.fenceTest i k).1.Remnant s := by
  unfold State.fenceTest
  split
  · exact .rfl
  · exact State.remnant_updStream_kept rfl rfl

theorem State.remnant_loadTable (s : State) (i : StreamNo) (k : Fin 2) (f : TableSet → TableSet) : (s.loadTable i k f).Remnant s :=
  State.Remnant.trans (State.remnant_updStream_kept rfl rfl) (.of_frame rfl)

theorem State.remnant_applyPairs (s : State) (i : StreamNo) (k : Fin 2) (entries : List PairEntry) :
    (s.applyPairs i k entries).Remnant s :=
  (State.remnant_countIf _ _ _ _).trans (s.remnant_loadTable i k _)

/-! ### The ends of a grant -/

theorem State.remnant_actHalt (s : State) (b : Bool) : (s.actHalt b).Remnant s := by
  unfold State.actHalt
  split
  · exact s.remnant_stopRequest _
  · exact .rfl

theorem State.remnant_endGrant (s : State) : s.endGrant.Remnant s := (State.remnant_testStopped _).trans (.of_frame rfl)

theorem State.remnant_endWaiting (s : State) (i : StreamNo) (w : Wait) : (s.endWaiting i w).Remnant s :=
  (State.remnant_endGrant _).trans (s.remnant_setWait i w)

theorem State.remnant_dropHead (s : State) (i : StreamNo) : (s.dropHead i).Remnant s :=
  .of_work (State.workFrom_updStream (List.tail_subset _) fun _ => id) rfl rfl

/-! ### Cancellations and resets -/

/-- Cancellations of streams that leave each without queue and buffer. -/
theorem Cancelled.remnant {after : Stream → Stream} {C : StreamNo → Bool} {s t : State} (h : Cancelled after C s t)
    (hq : ∀ v, (after v).queue = []) (hb : ∀ v, (after v).buffer = none) : t.Remnant s where
  forms := by rw [h.frame]
  queue i := by
    rw [h.stream]
    split
    · rw [hq]; exact List.nil_subset _
    · rw [Stream.freed_queue]; exact List.Subset.refl _
  buffer i := by
    rw [h.stream]
    split
    · rw [hb]; exact nofun
    · rw [Stream.freed_buffer]; exact fun _ => id
  pages := by
    have hsettle : ∀ q, (settle C q).Remnant q := fun q => by
      unfold settle
      split
      · exact ⟨⟨rfl, id⟩, rfl, le_rfl⟩
      · exact .rfl
    rw [h.pages]
    exact (PagesOf.map hsettle _).trans (.filter _ _)
  pagesOpened := by rw [h.frame]

theorem State.remnant_cancelStream (s : State) (i : StreamNo) : (s.cancelStream i).Remnant s :=
  (s.cancelStream_cancelled i).remnant (fun _ => rfl) fun _ => rfl

theorem State.remnant_resetPort (s : State) (p : Port) : (s.resetPort p).Remnant s := by
  cases h : (s.port p).reset with
  | true => exact (State.resetPort_high h).symm ▸ .rfl
  | false =>
    rw [State.resetPort_low h]
    exact ((State.foldl_unbindFrom_cancelled p allStreams (by decide) _).remnant (fun _ => rfl) fun _ => rfl).trans
      (s.remnant_updPort p _)

theorem State.remnant_foldl {f : State → StreamNo → State} (hf : ∀ u i, (f u i).Remnant u) (l : List StreamNo) (s : State) :
    (l.foldl f s).Remnant s := by
  induction l generalizing s with
  | nil => exact .rfl
  | cons i l ih => exact (ih _).trans (hf s i)

theorem State.remnant_purgeAll (s : State) : s.purgeAll.Remnant s := by
  have hcancel : ∀ (u : State) i, (u.cancelBound i).Remnant u := fun u i => by
    unfold State.cancelBound
    split
    · exact .rfl
    · exact u.remnant_cancelStream i
  have hemptied : ((allStreams.foldl State.cancelBound s).discardPages fun _ => true).Remnant s :=
    (State.remnant_discardPages _ _).trans (State.remnant_foldl hcancel _ s)
  unfold State.purgeAll
  generalize (allStreams.foldl State.cancelBound s).discardPages (fun _ => true) = emptied at hemptied ⊢
  exact State.Remnant.trans (.of_frame (by rw [State.enterStopped_eq])) hemptied

theorem State.remnant_purge (s : State) : s.purge.Remnant s := by
  unfold State.purge
  split
  · exact s.remnant_purgeAll
  · exact s.remnant_purgeAll
  · exact .rfl
  · exact .rfl

/-! ### Imager, engine and panel -/

theorem State.remnant_beginRendering (s : State) (b : Fin 2) (p : Page) : (s.beginRendering b p).Remnant s :=
  State.Remnant.trans (u := s.updPage p.ref fun q => { q with state := .imaging }) (.of_frame rfl)
    (s.remnant_updPage _ fun _ => ⟨⟨rfl, nofun⟩, rfl, le_rfl⟩)

theorem State.remnant_select (s : State) : s.select.Remnant s := by
  have hchosen : ∀ p u, s.choosePage = some (p, u) → u.Remnant s := by
    intro p u h
    unfold State.choosePage at h
    split at h
    · obtain ⟨_, -, e⟩ := Option.map_eq_some_iff.1 h
      cases e
      exact .of_frame rfl
    · split at h
      · obtain ⟨_, -, e⟩ := Option.map_eq_some_iff.1 h
        cases e
        exact .of_frame rfl
      · cases h
  unfold State.select
  split
  · split
    · next b p u _ hp => exact (u.remnant_beginRendering b p).trans (hchosen p u hp)
    · exact .rfl
  · exact .rfl

theorem State.remnant_renderingDone (s : State) : s.renderingDone.Remnant s := by
  unfold State.renderingDone
  split
  · exact .rfl
  · split
    · exact .rfl
    · refine State.Remnant.trans (.of_frame rfl) ((State.remnant_countIf _ _ _ _).trans ?_)
      split
      · exact s.remnant_updPage _ fun _ => ⟨⟨rfl, id⟩, rfl, le_rfl⟩
      · exact .rfl

theorem State.remnant_issueSheet (s : State) : s.issueSheet.Remnant s := by
  unfold State.issueSheet
  split
  · split
    · next p _ =>
      exact State.Remnant.trans (u := s.issueCopy p.ref) (.of_frame rfl)
        (s.remnant_updPage _ fun _ => ⟨⟨rfl, nofun⟩, rfl, le_rfl⟩)
    · exact .rfl
  · exact .rfl

theorem State.remnant_sendDone (s : State) : s.sendDone.Remnant s := by
  unfold State.sendDone
  split
  · exact .rfl
  · split
    · exact .rfl
    · dsimp only
      split
      · exact .of_frame rfl
      · exact .of_frame rfl

/-- Jam recovery leaves every page but for its state and its copies (R146, R161). -/
theorem State.remnant_recover (s : State) : s.recover.Remnant s := by
  have hwithdrawn : ∀ (u : State) lost before, (u.jamBuffers lost before).Remnant u := fun u lost before =>
    State.Remnant.trans (.of_frame rfl) (u.remnant_mapPages fun p => by
      split
      · exact ⟨⟨rfl, nofun⟩, rfl, le_rfl⟩
      · exact .rfl)
  refine (hwithdrawn _ _ _).trans (State.Remnant.trans (.of_frame rfl) (s.remnant_mapPages fun p => ?_))
  split
  · exact ⟨⟨rfl, nofun⟩, rfl, le_rfl⟩
  · exact .rfl

theorem State.remnant_jamEvent (s : State) (d : DevCond) (c : Cause) : (s.jamEvent d c).Remnant s :=
  (State.remnant_engineCause _ c).trans ((State.remnant_deviceCond _ d).trans s.remnant_recover)

theorem State.remnant_confirmOldest (s : State) : s.confirmOldest.Remnant s := by
  refine (State.remnant_testStopped _).trans (State.Remnant.trans (.of_frame rfl) ?_)
  split
  · exact (State.remnant_confirmCopy _ _).trans (.of_frame rfl)
  · exact .of_frame rfl

theorem State.remnant_stackedReport (s : State) (tag : BitVec 4) : (s.stackedReport tag).Remnant s := by
  unfold State.stackedReport
  split
  · split
    · exact s.remnant_confirmOldest
    · exact s.remnant_jamEvent _ _
  · exact s.remnant_deviceCond _

theorem State.remnant_lossOfReadiness (s : State) (d : DevCond) (c : Cause) : (s.lossOfReadiness d c).Remnant s :=
  (State.remnant_engineCause _ c).trans ((State.remnant_deviceCond _ d).trans (.of_frame rfl))

theorem State.remnant_numberedReport (s : State) (n : Nat) (d : DevCond) (c : Cause) : (s.numberedReport n d c).Remnant s := by
  unfold State.numberedReport
  split
  · exact s.remnant_lossOfReadiness d c
  · exact .rfl

theorem State.remnant_readyReport (s : State) : s.readyReport.Remnant s := by
  unfold State.readyReport
  dsimp only
  split
  · exact .of_frame rfl
  · exact .of_frame rfl

theorem State.remnant_stackTimerExpires (s : State) : s.stackTimerExpires.Remnant s := by
  unfold State.stackTimerExpires
  split
  · exact s.remnant_jamEvent _ _
  · exact .rfl

theorem State.remnant_panelSample (s : State) (r : KeySample) (c : PanelCommand) {effect : State → State}
    (h : ∀ u, (effect u).Remnant u) : (s.panelSample r c effect).Remnant s := by
  unfold State.panelSample
  split
  · exact (h _).trans (.of_frame rfl)
  · exact .rfl

theorem State.remnant_makeGrant (s : State) : s.makeGrant.Remnant s := by
  unfold State.makeGrant
  split
  · exact .of_frame rfl
  · exact .rfl

end Sys2Proof.Machine
end

section
/-! The arrival of lines and the emission of buffers under the space test (R71, R88 to R96): a line that finds the room it needs leaves
the store law. -/

namespace Sys2Proof.Machine

/-! ### Pages under the law -/

/-- No other page bears the name of `p`, so that an update by name changes one place of the store. -/
theorem PagesLaw.split {ps : List Page} {n : Nat} (h : PagesLaw ps n) {p : Page} (hp : p ∈ ps) :
    ∃ as bs, ps = as ++ p :: bs ∧ ∀ f : Page → Page, (ps.map fun q => if q.ref = p.ref then f q else q) = as ++ f p :: bs := by
  obtain ⟨as, bs, rfl⟩ := List.append_of_mem hp
  obtain ⟨-, hbs, has⟩ := List.pairwise_append.1 h.ordered
  have hkeep : ∀ (f : Page → Page) (l : List Page), (∀ q ∈ l, q.serial ≠ p.serial) →
      (l.map fun q => if q.ref = p.ref then f q else q) = l := fun f l hl =>
    (List.map_congr_left fun q hq => if_neg fun e => hl q hq (congrArg PageRef.serial e)).trans (List.map_id _)
  refine ⟨as, bs, rfl, fun f => ?_⟩
  rw [List.map_append, List.map_cons, if_pos rfl, hkeep f as fun q hq => (has q hq p List.mem_cons_self).ne,
    hkeep f bs fun q hq => ((List.pairwise_cons.1 hbs).1 q hq).ne']

/-- A stream has one OPEN page (R64). -/
theorem PagesLaw.open_unique {ps : List Page} {n : Nat} (h : PagesLaw ps n) {p q : Page} (hp : p ∈ ps) (hq : q ∈ ps)
    (hs : q.stream = p.stream) (hpo : p.state = .opened) (hqo : q.state = .opened) : q = p := by
  have hone := h.oneOpen p.stream
  have hmem : ∀ x ∈ ps, x.stream = p.stream → x.state = .opened →
      x ∈ ps.filter fun x => decide (x.stream = p.stream ∧ x.state = .opened) := fun x hx h1 h2 =>
    List.mem_filter.2 ⟨hx, decide_eq_true ⟨h1, h2⟩⟩
  have hp' := hmem p hp rfl hpo
  have hq' := hmem q hq hs hqo
  obtain ⟨as, bs, hl⟩ := List.append_of_mem hp'
  rw [hl, List.length_append, List.length_cons] at hone
  obtain rfl : as = [] := List.eq_nil_of_length_eq_zero (by omega)
  obtain rfl : bs = [] := List.eq_nil_of_length_eq_zero (by omega)
  rw [hl] at hq'
  exact List.mem_singleton.1 hq'

/-- A page opened behind the others: it finds a free record and its slots, and is not a second OPEN page of its stream. -/
theorem PagesLaw.append {ps : List Page} {n : Nat} (h : PagesLaw ps n) {p : Page} (hserial : p.serial = n) (hrecord : ps.length < 64)
    (hslots : (ps.map Page.load).sum + p.load ≤ 4096)
    (hopen : p.state = .opened → ∀ q ∈ ps, q.stream = p.stream → q.state ≠ .opened) : PagesLaw (ps ++ [p]) (n + 1) where
  records := by simpa using hrecord
  slots := by simpa using hslots
  oneOpen i := by
    rw [List.filter_append, List.length_append]
    by_cases hp : p.stream = i ∧ p.state = .opened
    · have hnone : (ps.filter fun q => decide (q.stream = i ∧ q.state = .opened)) = [] :=
        List.filter_eq_nil_iff.2 fun q hq => by
          simpa using fun e => hopen hp.2 q hq (e.trans hp.1.symm)
      rw [hnone, List.length_nil, Nat.zero_add]
      exact List.length_filter_le _ [p]
    · have := h.oneOpen i
      simpa [hp] using this
  ordered := List.pairwise_append.2 ⟨h.ordered, List.pairwise_singleton _ _, fun q hq p' hp' => by
    rw [List.mem_singleton.1 hp', hserial]
    exact h.below q hq⟩
  below q hq := by
    rcases List.mem_append.1 hq with hq | hq
    · exact Nat.lt_succ_of_lt (h.below q hq)
    · rw [List.mem_singleton.1 hq, hserial]
      exact Nat.lt_succ_self n

/-! ### Opening, appending and closing -/

theorem State.unreserved_eq (s : State) : s.unreserved = 4096 - (s.pages.map Page.load).sum := by
  rw [s.load_sum]
  exact Nat.sub_sub _ _ _

theorem State.openingFits_iff (s : State) (i : StreamNo) (ln : ComposedLine) :
    s.openingFits i ln = true ↔
      (s.stream i).blanksFor ln + 1 ≤ 64 - s.pages.length ∧ ln.length ≤ 4096 - (s.pages.map Page.load).sum := by
  rw [← s.unreserved_eq]
  exact decide_eq_true_iff

theorem State.makePage_pages (s : State) (i : StreamNo) (ln : ComposedLine) (n : Word16) (b : Bool) :
    (s.makePage i ln n b).pages =
      s.pages ++ [(s.stream i).newPage i s.pagesOpened (s.geometry.get (s.stream i).attributes.geometry) ln n b] := rfl

theorem State.makePage_blank_pagesLaw {s : State} (h : PagesLaw s.pages s.pagesOpened) (i : StreamNo) (ln : ComposedLine) (n : Word16)
    (hrecord : s.pages.length < 64) : PagesLaw (s.makePage i ln n true).pages (s.makePage i ln n true).pagesOpened :=
  h.append rfl hrecord h.slots nofun

theorem State.makePage_line_pagesLaw {s : State} (h : PagesLaw s.pages s.pagesOpened) {i : StreamNo} (hopen : s.openPage i = none)
    (ln : ComposedLine) (n : Word16) (hrecord : s.pages.length < 64) (hslots : (s.pages.map Page.load).sum + ln.length ≤ 4096) :
    PagesLaw (s.makePage i ln n false).pages (s.makePage i ln n false).pagesOpened :=
  h.append rfl hrecord (by simpa [Page.load, Stream.newPage] using hslots) fun _ => State.openPage_none.1 hopen

/-- Blank pages are CLOSED and take up no line slot (R96). -/
theorem State.makeBlanks_pages (s : State) (i : StreamNo) (ln : ComposedLine) (n : Nat) :
    ∃ blanks : List Page, (s.makeBlanks i ln n).pages = s.pages ++ blanks ∧ blanks.length = n ∧
      ∀ q ∈ blanks, q.state = .closed ∧ q.load = 0 := by
  induction n generalizing s with
  | zero => exact ⟨[], (List.append_nil _).symm, rfl, by simp⟩
  | succ n ih =>
    obtain ⟨blanks, hpages, hlength, hblank⟩ := ih (s.makePage i ln (ln.sequence - BitVec.ofNat 16 (n + 1)) true)
    rw [State.makePage_pages, List.append_assoc] at hpages
    exact ⟨_, hpages, congrArg Nat.succ hlength, List.forall_mem_cons.2 ⟨⟨rfl, rfl⟩, hblank⟩⟩

theorem State.makeBlanks_pagesLaw {s : State} (h : PagesLaw s.pages s.pagesOpened) (i : StreamNo) (ln : ComposedLine) {n : Nat}
    (hrecords : s.pages.length + n ≤ 64) : PagesLaw (s.makeBlanks i ln n).pages (s.makeBlanks i ln n).pagesOpened := by
  induction n generalizing s with
  | zero => exact h
  | succ n ih =>
    refine ih (State.makePage_blank_pagesLaw h i ln _ (by omega)) ?_
    rw [State.makePage_pages, List.length_append, List.length_singleton]
    omega

/-- A line appended to an OPEN page that has a slot in reserve, or else where a slot is free and unreserved (R88, R93). -/
theorem State.appendLine_pagesLaw {s : State} (h : PagesLaw s.pages s.pagesOpened) {i : StreamNo} (ln : ComposedLine)
    (hroom : ∀ p, s.openPage i = some p → 0 < p.reservation ∨ (s.pages.map Page.load).sum < 4096) :
    PagesLaw (s.appendLine i ln).pages (s.appendLine i ln).pagesOpened := by
  unfold State.appendLine
  split
  · exact h
  · next p hp =>
    obtain ⟨as, bs, hsplit, hupd⟩ := h.split (State.openPage_some hp).2.2
    refine h.of_stands (PagesOf.map (fun q => ?_) _) ?_
    · split
      · exact ⟨rfl, fun h => h⟩
      · exact ⟨rfl, fun h => h⟩
    · have hslots := h.slots
      have hroom := hroom p hp
      simp only [State.updPage_pages, hupd]
      rw [hsplit] at hslots hroom
      simp only [List.map_append, List.map_cons, List.sum_append, List.sum_cons, Page.load, List.length_append,
        List.length_singleton] at hslots hroom ⊢
      omega

theorem State.closePage_pages (s : State) (i : StreamNo) :
    (s.closePage i).pages = match s.openPage i with
      | none => s.pages
      | some p => s.pages.map fun q => if q.ref = p.ref then { q with state := .closed, reservation := 0 } else q := by
  unfold State.closePage
  cases s.openPage i with
  | none => rfl
  | some p => dsimp only; split <;> rfl

/-- After a close the stream has no OPEN page (R94). -/
theorem State.openPage_closePage {s : State} (h : PagesLaw s.pages s.pagesOpened) (i : StreamNo) :
    (s.closePage i).openPage i = none := by
  rw [State.openPage_none, State.closePage_pages]
  cases hp : s.openPage i with
  | none => exact State.openPage_none.1 hp
  | some p =>
    obtain ⟨hstream, hopened, hmem⟩ := State.openPage_some hp
    intro q hq hqs hqo
    obtain ⟨q', hq', rfl⟩ := List.mem_map.1 hq
    split at hqs
    · next e => rw [if_pos e] at hqo; cases hqo
    · next e =>
      rw [if_neg e] at hqo
      exact e (congrArg Page.ref (h.open_unique hmem hq' (hqs.trans hstream.symm) hopened hqo))

/-- A line that opens a page where the opening fits (R89, R91). -/
theorem State.openWith_pagesLaw {s : State} (h : PagesLaw s.pages s.pagesOpened) {i : StreamNo} (hopen : s.openPage i = none)
    {ln : ComposedLine} (hfits : s.openingFits i ln = true) (hlength : 0 < ln.length) :
    PagesLaw (s.openWith i ln).pages (s.openWith i ln).pagesOpened := by
  obtain ⟨hrecords, hslots⟩ := (s.openingFits_iff i ln).1 hfits
  unfold State.openWith
  dsimp only
  generalize hc : (s.updStream i fun u => { u with
    blankFormsCounter := u.blankFormsCounter + BitVec.ofNat 16 ((s.stream i).passedOver ln) }) = counted
  have hcounted : PagesLaw counted.pages counted.pagesOpened := hc ▸ h
  have hpages : counted.pages = s.pages := hc ▸ rfl
  generalize hn : (s.stream i).blanksFor ln = n at hrecords ⊢
  obtain ⟨blanks, hblanks, hbl, hb⟩ := counted.makeBlanks_pages i ln n
  have hmade := State.makeBlanks_pagesLaw hcounted i ln (n := n) (by rw [hpages]; omega)
  generalize counted.makeBlanks i ln n = made at hblanks hmade ⊢
  have hlen : made.pages.length < 64 := by rw [hblanks, List.length_append, hpages]; omega
  have hload : (made.pages.map Page.load).sum = (s.pages.map Page.load).sum := by
    rw [hblanks, hpages, List.map_append, List.sum_append, List.map_congr_left fun q hq => (hb q hq).2]
    simp
  have hnone : made.openPage i = none := by
    rw [State.openPage_none, hblanks, hpages]
    intro q hq hs
    rcases List.mem_append.1 hq with hq | hq
    · exact State.openPage_none.1 hopen q hq hs
    · rw [(hb q hq).1]; nofun
  have hlaw := State.makePage_line_pagesLaw hmade hnone ln ln.sequence hlen (by omega)
  refine State.appendLine_pagesLaw (s := (made.makePage i ln ln.sequence false).updStream i _) hlaw ln fun p hp => .inl ?_
  obtain ⟨hs, ho, hmem⟩ := State.openPage_some hp
  rw [State.updStream_pages, State.makePage_pages] at hmem
  rcases List.mem_append.1 hmem with hmem | hmem
  · exact absurd ho (State.openPage_none.1 hnone p hmem hs)
  · rw [List.mem_singleton.1 hmem]
    exact hlength

/-! ### What the arrival of a line leaves of the queues and buffers -/

theorem State.workFrom_makePage (s : State) (i : StreamNo) (ln : ComposedLine) (n : Word16) (b : Bool) :
    (s.makePage i ln n b).WorkFrom s :=
  State.WorkFrom.trans (State.workFrom_updStream_kept rfl rfl) (.of_kept rfl (fun _ => rfl) fun _ => rfl)

theorem State.workFrom_makeBlanks (s : State) (i : StreamNo) (ln : ComposedLine) (n : Nat) : (s.makeBlanks i ln n).WorkFrom s := by
  induction n generalizing s with
  | zero => exact .rfl
  | succ n ih => exact (ih _).trans (s.workFrom_makePage i ln _ true)

theorem State.workFrom_appendLine (s : State) (i : StreamNo) (ln : ComposedLine) : (s.appendLine i ln).WorkFrom s := by
  rw [State.appendLine_frame]
  exact .of_kept rfl (fun _ => rfl) fun _ => rfl

theorem State.workFrom_openWith (s : State) (i : StreamNo) (ln : ComposedLine) : (s.openWith i ln).WorkFrom s :=
  (State.workFrom_appendLine _ i ln).trans <| State.WorkFrom.trans (State.workFrom_updStream_kept rfl rfl) <|
    (State.workFrom_makePage _ i ln _ false).trans <| (State.workFrom_makeBlanks _ i ln _).trans <|
      State.workFrom_updStream_kept rfl rfl

theorem State.workFrom_receiveLine (s : State) (i : StreamNo) (ln : ComposedLine) : (s.receiveLine i ln).WorkFrom s := by
  refine State.WorkFrom.trans (State.workFrom_updStream_kept rfl rfl) ?_
  split
  · exact s.workFrom_openWith i ln
  · split
    · exact s.workFrom_appendLine i ln
    · exact (State.workFrom_openWith _ i ln).trans (s.remnant_closePage i).toWorkFrom

/-- A line for which the space test passes keeps the store law when it arrives (R88, R89, R91). -/
theorem State.receiveLine_storeLaw {s : State} (hs : s.StoreLaw) {i : StreamNo} {ln : ComposedLine} (hlength : 0 < ln.length)
    (hfits : s.lineFits i ln = true) : (s.receiveLine i ln).StoreLaw := by
  have hclosed := (State.storeLaw_iff _).1 ((s.remnant_closePage i).storeLaw hs)
  rw [State.storeLaw_iff] at hs ⊢
  obtain ⟨hpages, hlengths⟩ := hs
  refine ⟨?_, (s.workFrom_receiveLine i ln).lengthLaw hlengths⟩
  unfold State.lineFits at hfits
  unfold State.receiveLine
  dsimp only [State.updStream_pages, State.updStream_pagesOpened]
  cases hopen : s.openPage i with
  | none =>
    rw [hopen] at hfits
    exact State.openWith_pagesLaw hpages hopen hfits hlength
  | some p =>
    rw [hopen] at hfits
    dsimp only at hfits ⊢
    split at hfits
    · next hseq =>
      rw [if_pos hseq]
      refine State.appendLine_pagesLaw hpages ln fun q hq => ?_
      cases hopen.symm.trans hq
      rw [s.unreserved_eq, decide_eq_true_eq] at hfits
      omega
    · next hseq =>
      rw [if_neg hseq]
      exact State.openWith_pagesLaw hclosed.1 (State.openPage_closePage hpages i) hfits hlength

/-! ### What the space test reads -/

/-- The page without its marks, which the space test does not read. -/
def Page.unmarked (p : Page) : Page := { p with marks := [] }

/-- The space test of a line for stream `i` finds the same in `t` as in `s`. -/
structure State.SameRoom (i : StreamNo) (t s : State) : Prop where
  pages : t.pages.map Page.unmarked = s.pages.map Page.unmarked
  attributes : (t.stream i).attributes = (s.stream i).attributes
  lastLined : (t.stream i).lastLined = (s.stream i).lastLined

theorem State.SameRoom.rfl {i : StreamNo} {s : State} : State.SameRoom i s s := ⟨.refl _, .refl _, .refl _⟩

theorem State.SameRoom.trans {i : StreamNo} {t u v : State} (h : State.SameRoom i t u) (k : State.SameRoom i u v) :
    State.SameRoom i t v := ⟨h.pages.trans k.pages, h.attributes.trans k.attributes, h.lastLined.trans k.lastLined⟩

theorem Stream.blanksFor_congr {t u : Stream} (ha : t.attributes = u.attributes) (hl : t.lastLined = u.lastLined) (ln : ComposedLine) :
    t.blanksFor ln = u.blanksFor ln := by
  simp only [Stream.blanksFor, Stream.passedOver, ha, hl]

/-- A page close does not look at what the blank pages of a later opening are reckoned from. -/
theorem State.closePage_blanksFor (s : State) (i : StreamNo) (ln : ComposedLine) :
    ((s.closePage i).stream i).blanksFor ln = (s.stream i).blanksFor ln := by
  have hfree : ∀ u : State, (u.endStoreWaits.stream i).blanksFor ln = (u.stream i).blanksFor ln := fun u => by
    rw [State.stream_endStoreWaits]
    split <;> rfl
  have hstop : ∀ u : State, ((u.updStream i fun t => { t with pageAge := .stopped }).stream i).blanksFor ln
      = (u.stream i).blanksFor ln := fun u => by rw [State.stream_updStream_self]; rfl
  unfold State.closePage
  cases s.openPage i with
  | none => rfl
  | some p =>
    dsimp only
    split
    · exact (hfree _).trans (hstop _)
    · exact hstop _

/-- The space test does not read the marks of a page, nor of the stream more than its blank pages are reckoned from. -/
theorem State.lineFits_of_unmarked {u s : State} {i : StreamNo} {ln : ComposedLine} (hpages : u.pages = s.pages.map Page.unmarked)
    (hblanks : (u.stream i).blanksFor ln = (s.stream i).blanksFor ln) : u.lineFits i ln = s.lineFits i ln := by
  have hload : ∀ ps : List Page, ((ps.map Page.unmarked).map Page.load).sum = (ps.map Page.load).sum := fun ps => by
    rw [List.map_map]; rfl
  have hopen : u.openPage i = (s.openPage i).map Page.unmarked := by
    unfold State.openPage
    rw [hpages, List.find?_map]
    rfl
  have hclosed : (u.closePage i).pages = (s.closePage i).pages.map Page.unmarked := by
    rw [State.closePage_pages, State.closePage_pages, hopen, hpages]
    cases s.openPage i with
    | none => rfl
    | some p =>
      simp only [Option.map_some, List.map_map]
      refine List.map_congr_left fun q _ => ?_
      by_cases h : q.ref = p.ref
      · rw [Function.comp_apply, Function.comp_apply, if_pos h, if_pos (show q.unmarked.ref = p.unmarked.ref from h)]
        rfl
      · rw [Function.comp_apply, Function.comp_apply, if_neg h, if_neg (show q.unmarked.ref ≠ p.unmarked.ref from h)]
  have hfits : ∀ v w : State, v.pages = w.pages.map Page.unmarked → (v.stream i).blanksFor ln = (w.stream i).blanksFor ln →
      v.openingFits i ln = w.openingFits i ln := fun v w hp hb => by
    rw [Bool.eq_iff_iff, State.openingFits_iff, State.openingFits_iff, hp, hb, hload, List.length_map]
  unfold State.lineFits
  rw [hopen]
  cases s.openPage i with
  | none => exact hfits u s hpages hblanks
  | some p =>
    have hseq : p.unmarked.sequence = p.sequence := rfl
    have hres : p.unmarked.reservation = p.reservation := rfl
    simp only [Option.map_some, hseq, hres, State.unreserved_eq, hpages, hload]
    rw [hfits _ _ hclosed (by rw [State.closePage_blanksFor, State.closePage_blanksFor, hblanks])]

theorem State.SameRoom.lineFits {i : StreamNo} {t s : State} (h : State.SameRoom i t s) (ln : ComposedLine) :
    t.lineFits i ln = s.lineFits i ln :=
  (State.lineFits_of_unmarked (s := t) (u := { t with pages := t.pages.map Page.unmarked }) (.refl _) (.refl _)).symm.trans
    (State.lineFits_of_unmarked h.pages (Stream.blanksFor_congr h.attributes h.lastLined ln))

/-! ### Emission -/

/-- The line that an emission of the stream's buffer hands over finds the room it needs. -/
abbrev State.EmissionFits (s : State) (i : StreamNo) : Prop := ∀ ln ∈ s.bufferLine i, s.lineFits i ln = true

theorem Assembly.composed_length {b : Assembly} {ln : ComposedLine} (h : b.composed = some ln) : ln.length = b.length := by
  unfold Assembly.composed at h
  split at h
  · cases h
  · cases h
    rfl

theorem State.bufferLine_of_some {s : State} {i : StreamNo} {b : Assembly} (h : (s.stream i).buffer = some b) :
    s.bufferLine i = b.composed.toList := by
  rw [State.bufferLine, h]

theorem State.emissionFits_of_none {s : State} {i : StreamNo} (h : (s.stream i).buffer = none) : s.EmissionFits i := by
  rw [State.EmissionFits, State.bufferLine, h]
  nofun

theorem State.EmissionFits.of_sameRoom {t s : State} {i : StreamNo} (hs : s.EmissionFits i) (h : State.SameRoom i t s)
    (hb : (t.stream i).buffer = (s.stream i).buffer) : t.EmissionFits i := by
  intro ln hln
  rw [State.bufferLine, hb] at hln
  rw [h.lineFits]
  exact hs ln hln

/-- The space test of a taking that emits at most one line. -/
theorem State.lineFits_of_spaceTest {s : State} {i : StreamNo} {o : Option ComposedLine} (h : s.spaceTest i o.toList = true) :
    ∀ ln ∈ o.toList, s.lineFits i ln = true := by
  intro ln hln
  cases Option.mem_toList.1 hln
  exact (Bool.and_eq_true_iff.1 h).1

theorem State.emissionFits_of_spaceTest {s : State} {i : StreamNo} (h : s.spaceTest i (s.bufferLine i) = true) :
    s.EmissionFits i := by
  cases hb : (s.stream i).buffer with
  | none => exact State.emissionFits_of_none hb
  | some b =>
    rw [State.bufferLine_of_some hb] at h
    rw [State.EmissionFits, State.bufferLine_of_some hb]
    exact State.lineFits_of_spaceTest h

/-- An emission leaves the buffer EMPTY (R71, R72). -/
theorem State.buffer_emit (s : State) (i : StreamNo) : ((s.emit i).stream i).buffer = none := by
  unfold State.emit
  split
  · assumption
  · rw [State.stream_reexamineFence_freed, Stream.freed_buffer, State.stream_updStream_self]

/-- The buffer is given up. -/
theorem State.remnant_dropBuffer (s : State) (i : StreamNo) : (s.updStream i fun t => { t with buffer := none }).Remnant s :=
  .of_work (State.workFrom_updStream (List.Subset.refl _) nofun) rfl rfl

theorem State.emit_storeLaw {s : State} (hs : s.StoreLaw) {i : StreamNo} (hfits : s.EmissionFits i) : (s.emit i).StoreLaw := by
  unfold State.emit
  split
  · exact hs
  · next b hb =>
    refine ((State.remnant_reexamineFence _ _).trans (State.remnant_dropBuffer _ i)).storeLaw ?_
    split
    · next ln hln =>
      have hlength : 0 < ln.length := by
        have hform := ((State.storeLaw_iff s).1 hs).2.buffer i b hb
        rw [Assembly.composed_length hln]
        omega
      have hmem : ln ∈ s.bufferLine i := by rw [State.bufferLine_of_some hb, hln]; exact List.mem_singleton_self ln
      have hkept : ((s.receiveLine i ln).updStream i fun t => { t with linesComposed := t.linesComposed + 1 }).Remnant
          (s.receiveLine i ln) := State.remnant_updStream_kept rfl rfl
      exact hkept.storeLaw (State.receiveLine_storeLaw hs hlength (hfits ln hmem))
    · exact hs

end Sys2Proof.Machine
end

section
/-! The composer's takings under the store law (R59, R63): each emits its buffer only after the space test has passed for its line. -/

namespace Sys2Proof.Machine

/-! ### What a taking leaves of the room -/

theorem State.stream_countIf (s : State) (b : Bool) (i j : StreamNo) (k : Cond) :
    (s.countIf b i k).stream j = { s.stream j with counts := ((s.countIf b i k).stream j).counts } := by
  cases b with
  | false => rfl
  | true =>
    rw [State.countIf_true, State.stream_countCond]
    split <;> rfl

theorem State.stream_completeLoad (s : State) (i j : StreamNo) :
    (s.completeLoad i).stream j = { s.stream j with counts := ((s.completeLoad i).stream j).counts } := by
  unfold State.completeLoad
  split
  · rfl
  · exact State.stream_countIf _ _ i j _

/-- The completion of an open load writes the slots, and with a condition the streams and the ports, alone (R131). -/
theorem State.completeLoad_frame (s : State) (i : StreamNo) :
    s.completeLoad i = { s with
      streams := (s.completeLoad i).streams, ports := (s.completeLoad i).ports, overlays := (s.completeLoad i).overlays } := by
  unfold State.completeLoad
  split
  · rfl
  · unfold State.readySlot
    rw [State.countIf_frame]
    rfl

theorem State.buffer_countIf (s : State) (b : Bool) (i j : StreamNo) (k : Cond) :
    ((s.countIf b i k).stream j).buffer = (s.stream j).buffer := by rw [State.stream_countIf]

theorem State.buffer_completeLoad (s : State) (i j : StreamNo) : ((s.completeLoad i).stream j).buffer = (s.stream j).buffer := by
  rw [State.stream_completeLoad]

theorem State.SameRoom.of_pages {i : StreamNo} {t s : State} (hp : t.pages = s.pages)
    (ha : (t.stream i).attributes = (s.stream i).attributes) (hl : (t.stream i).lastLined = (s.stream i).lastLined) :
    State.SameRoom i t s := ⟨by rw [hp], ha, hl⟩

theorem State.sameRoom_updStream {i : StreamNo} {s : State} {f : Stream → Stream}
    (ha : (f (s.stream i)).attributes = (s.stream i).attributes) (hl : (f (s.stream i)).lastLined = (s.stream i).lastLined) :
    State.SameRoom i (s.updStream i f) s :=
  .of_pages rfl (by rw [State.stream_updStream_self, ha]) (by rw [State.stream_updStream_self, hl])

theorem State.sameRoom_countIf (s : State) (b : Bool) (i : StreamNo) (k : Cond) : State.SameRoom i (s.countIf b i k) s :=
  .of_pages (by rw [State.countIf_frame]) (by rw [State.stream_countIf]) (by rw [State.stream_countIf])

theorem State.sameRoom_completeLoad (s : State) (i : StreamNo) : State.SameRoom i (s.completeLoad i) s :=
  .of_pages (by rw [State.completeLoad_frame]) (by rw [State.stream_completeLoad]) (by rw [State.stream_completeLoad])

/-- A mark attached to a page, dropped or delivered takes no room (R97, R98). -/
theorem State.sameRoom_attachMark (s : State) (i : StreamNo) (id : Word16) : State.SameRoom i (s.attachMark i id) s := by
  unfold State.attachMark
  split
  · next p _ =>
    split
    · refine ⟨?_, rfl, rfl⟩
      rw [State.updPage_pages, List.map_map]
      refine List.map_congr_left fun q _ => ?_
      rw [Function.comp_apply]
      split <;> rfl
    · exact s.sameRoom_countIf true i .markOverrun
  · unfold State.deliverMark
    split
    · exact .rfl
    · exact State.SameRoom.trans (u := s.updStream i fun t => { t with marksDelivered := t.marksDelivered + 1 })
        (.of_pages rfl rfl rfl) (State.sameRoom_updStream rfl rfl)

theorem State.buffer_attachMark (s : State) (i : StreamNo) (id : Word16) :
    ((s.attachMark i id).stream i).buffer = (s.stream i).buffer := by
  unfold State.attachMark
  split
  · split
    · rfl
    · exact s.buffer_countIf true i i .markOverrun
  · unfold State.deliverMark
    split
    · rfl
    · rw [State.stream_updPort, State.stream_updStream_self]

/-- A strike reads the stream's buffer and table set, and the tables (R66, R67). -/
theorem State.struck_congr {t s : State} {i : StreamNo} (ht : t.tables = s.tables) (hb : (t.stream i).buffer = (s.stream i).buffer)
    (ha : (t.stream i).attributes = (s.stream i).attributes) (r : Resolved) (data : List Byte) :
    t.struck i r data = s.struck i r data := by
  simp only [State.struck, State.strike, Stream.bufferFor, ht, hb, ha]

/-! ### The steps of R63 -/

theorem State.actSync_storeLaw {s : State} (hs : s.StoreLaw) {i : StreamNo} {sync : Bool} (hfits : sync = true → s.EmissionFits i) :
    (s.actSync i sync).StoreLaw := by
  unfold State.actSync
  split
  · next h => exact (State.remnant_syncPages _ i).storeLaw (State.emit_storeLaw hs (hfits h))
  · exact hs

theorem State.finishTaking_storeLaw {s : State} (hs : s.StoreLaw) {i : StreamNo} {r : Resolved}
    (hfits : r.sync = true → s.EmissionFits i) : (s.finishTaking i r).StoreLaw := by
  have hdropped : r.sync = true → (s.dropHead i).EmissionFits i := fun hsync =>
    (hfits hsync).of_sameRoom (State.sameRoom_updStream rfl rfl) (by rw [State.dropHead, State.stream_updStream_self])
  have hsynced : ((s.dropHead i).actSync i r.sync).StoreLaw :=
    State.actSync_storeLaw ((s.remnant_dropHead i).storeLaw hs) hdropped
  exact ((State.remnant_testStopped _).trans <| (State.remnant_actHalt _ _).trans (.of_frame rfl)).storeLaw hsynced

/-- A taking keeps the store law where, its space test having passed, the emission before it does, its tests gain no work, and its action
leaves the law with room for the emission that a SYNC makes. -/
theorem State.carryOut_storeLaw {s : State} (hs : s.StoreLaw) {i : StreamNo} {r : Resolved} {k : Taking}
    (hbefore : (s.beginGrant i).spaceTest i k.lines = true → (k.before (s.beginGrant i)).StoreLaw)
    (htests : ∀ u, (k.tests u).1.Remnant u)
    (hact : (s.beginGrant i).spaceTest i k.lines = true → (k.act (k.tests (k.before (s.beginGrant i))).1).StoreLaw ∧
      (r.sync = true → (k.act (k.tests (k.before (s.beginGrant i))).1).EmissionFits i)) :
    (s.carryOut i r k).StoreLaw := by
  have hgranted : (s.beginGrant i).Remnant s := .of_frame rfl
  unfold State.carryOut
  dsimp only
  split
  · next hspace =>
    split
    · exact ((State.remnant_endWaiting _ i _).trans (htests _)).storeLaw (hbefore hspace)
    · exact State.finishTaking_storeLaw (hact hspace).1 (hact hspace).2
  · exact ((State.remnant_endWaiting _ i _).trans hgranted).storeLaw hs

/-- The granted record is the head of its stream's queue (R59). -/
theorem State.grant_mem {s : State} {i : StreamNo} {r : Resolved} (h : s.grant = some (i, r)) : r ∈ (s.stream i).queue := by
  obtain ⟨j, -, hj⟩ := Option.bind_eq_some_iff.1 h
  obtain ⟨rfl, rest, hq⟩ := headPair_eq_some.1 hj
  rw [hq]
  exact List.mem_cons_self

theorem State.take_storeLaw {s : State} (hs : s.StoreLaw) {α : Type} (pick : Body → Option α)
    {kind : State → StreamNo → Resolved → α → Taking}
    (hk : ∀ i r a, r ∈ (s.stream i).queue → (s.carryOut i r (kind s i r a)).StoreLaw) : (s.take pick kind).StoreLaw := by
  unfold State.take
  split
  · next hgrant =>
    split
    · exact hs
    · exact hk _ _ _ (State.grant_mem hgrant)
  · split
    · split
      · exact s.remnant_endGrant.storeLaw hs
      · exact hs
    · exact hs

/-! ### The takings, kind by kind -/

/-- A taking that emits the buffer before all else, its tests and its action gaining no work: it leaves no buffer for a SYNC to emit. -/
theorem State.carryOut_storeLaw_of_emits {s : State} (hs : s.StoreLaw) {i : StreamNo} {r : Resolved} {k : Taking}
    (hlines : k.lines = s.bufferLine i) (hbefore : k.before = fun u => u.emit i) (htests : ∀ u, (k.tests u).1.Remnant u)
    (hact : ∀ u, (k.act u).Remnant u) : (s.carryOut i r k).StoreLaw := by
  have hgranted : (s.beginGrant i).StoreLaw := State.Remnant.storeLaw (.of_frame rfl) hs
  have hemitted : (s.beginGrant i).spaceTest i k.lines = true → (k.before (s.beginGrant i)).StoreLaw := fun hspace => by
    rw [hlines] at hspace
    rw [hbefore]
    exact State.emit_storeLaw hgranted (State.emissionFits_of_spaceTest hspace)
  have hacted := (hact _).trans (htests (k.before (s.beginGrant i)))
  refine State.carryOut_storeLaw hs hemitted htests fun hspace => ⟨hacted.storeLaw (hemitted hspace), fun _ => ?_⟩
  refine State.emissionFits_of_none (Option.eq_none_iff_forall_not_mem.2 fun b hb => ?_)
  have := hacted.buffer i b hb
  rw [hbefore, State.buffer_emit] at this
  cases this

theorem State.controlTaking_storeLaw {s : State} (hs : s.StoreLaw) (i : StreamNo) (r : Resolved) {tests : State → State × Option Wait}
    {act : State → State} (htests : ∀ u, (tests u).1.Remnant u) (hact : ∀ u, (act u).Remnant u) :
    (s.carryOut i r (controlTaking s i tests act)).StoreLaw :=
  State.carryOut_storeLaw_of_emits hs rfl rfl htests hact

theorem State.closeTaking_storeLaw {s : State} (hs : s.StoreLaw) (i : StreamNo) (r : Resolved) :
    (s.carryOut i r (closeTaking s i)).StoreLaw :=
  State.carryOut_storeLaw_of_emits hs rfl rfl (fun _ => .rfl) fun u => (State.remnant_closePage _ i).trans (u.remnant_completeLoad i)

theorem State.markTaking_storeLaw {s : State} (hs : s.StoreLaw) (i : StreamNo) (r : Resolved) (id : Word16) :
    (s.carryOut i r (markTaking s i r id)).StoreLaw := by
  have hgranted : (s.beginGrant i).StoreLaw := State.Remnant.storeLaw (.of_frame rfl) hs
  refine State.carryOut_storeLaw hs (fun _ => hgranted) (fun _ => .rfl) fun hspace => ⟨?_, fun hsync => ?_⟩
  · exact ((State.remnant_attachMark _ i id).trans (State.remnant_completeLoad _ i)).storeLaw hgranted
  · have hlines : (markTaking s i r id).lines = (s.beginGrant i).bufferLine i := if_pos hsync
    have hfits : (s.beginGrant i).EmissionFits i := State.emissionFits_of_spaceTest (hlines ▸ hspace)
    refine hfits.of_sameRoom ((State.sameRoom_attachMark _ i id).trans (State.sameRoom_completeLoad _ i)) ?_
    exact (State.buffer_attachMark _ i id).trans (State.buffer_completeLoad _ i i)

/-- A buffer of a form length is merged into (R66). -/
theorem State.mergeBuffer_storeLaw {s : State} (hs : s.StoreLaw) (i : StreamNo) {b : Assembly} (hb : formLength b.length) :
    (s.updStream i fun t => { t with buffer := some b }).StoreLaw := by
  rw [State.storeLaw_iff] at hs ⊢
  obtain ⟨hpages, hlengths⟩ := hs
  refine ⟨hpages, hlengths.forms, fun j => ?_, fun j => ?_⟩
  · rw [State.stream_updStream]
    split
    · exact hlengths.queue j
    · exact hlengths.queue j
  · rw [State.stream_updStream]
    split
    · rintro _ ⟨⟩
      exact hb
    · exact hlengths.buffer j

/-- The buffer a PRINT record merges into has a form length: that of the OPEN buffer, or that of the record (R64, R66). -/
theorem State.struck_formLength {s : State} (hs : s.StoreLaw) {i : StreamNo} {r : Resolved} (hr : r ∈ (s.stream i).queue)
    (data : List Byte) : formLength (s.struck i r data).length := by
  obtain ⟨-, hlengths⟩ := (State.storeLaw_iff s).1 hs
  show formLength ((s.stream i).bufferFor r).length
  unfold Stream.bufferFor
  split
  · next b hb => exact hlengths.buffer i b hb
  · exact hlengths.queue i r hr

/-- What a PRINT record's strike leaves before any emission: an open load completed, the buffer merged, and its conditions counted
(R66, R70, R131). -/
def State.afterStrike (s : State) (i : StreamNo) (r : Resolved) (data : List Byte) : State :=
  let done := s.completeLoad i
  let k := done.strike i r data
  let merged := done.updStream i fun t => { t with buffer := some (done.struck i r data) }
  (merged.countIf k.void i .voidCode).countIf k.collision i .collision

theorem printTaking_act (s u : State) (i : StreamNo) (r : Resolved) (data : List Byte) :
    (printTaking s i r data).act u = if r.advance then (u.afterStrike i r data).emit i else u.afterStrike i r data := rfl

/-- A completed load does not change the strike. -/
theorem State.struck_completeLoad (s : State) (i : StreamNo) (r : Resolved) (data : List Byte) :
    (s.completeLoad i).struck i r data = s.struck i r data :=
  State.struck_congr (by rw [State.completeLoad_frame]) (s.buffer_completeLoad i i) (s.sameRoom_completeLoad i).attributes r data

theorem State.buffer_afterStrike (s : State) (i : StreamNo) (r : Resolved) (data : List Byte) :
    ((s.afterStrike i r data).stream i).buffer = some (s.struck i r data) := by
  unfold State.afterStrike
  rw [State.buffer_countIf, State.buffer_countIf, State.stream_updStream_self, State.struck_completeLoad]

theorem State.sameRoom_afterStrike (s : State) (i : StreamNo) (r : Resolved) (data : List Byte) :
    State.SameRoom i (s.afterStrike i r data) s :=
  (State.sameRoom_countIf _ _ i _).trans <| (State.sameRoom_countIf _ _ i _).trans <|
    State.SameRoom.trans (State.sameRoom_updStream rfl rfl) (s.sameRoom_completeLoad i)

theorem State.afterStrike_storeLaw {s : State} (hs : s.StoreLaw) {i : StreamNo} {r : Resolved} (hr : r ∈ (s.stream i).queue)
    (data : List Byte) : (s.afterStrike i r data).StoreLaw := by
  have hbuffer : formLength ((s.completeLoad i).struck i r data).length := by
    rw [State.struck_completeLoad]
    exact State.struck_formLength hs hr data
  exact ((State.remnant_countIf _ _ _ _).trans (State.remnant_countIf _ _ _ _)).storeLaw
    (State.mergeBuffer_storeLaw ((s.remnant_completeLoad i).storeLaw hs) i hbuffer)

/-- The line put to the space test at the grant is the one that the strike leaves to emit. -/
theorem State.emissionFits_afterStrike {s : State} {i : StreamNo} {r : Resolved} {data : List Byte}
    (h : s.spaceTest i (s.struck i r data).composed.toList = true) : (s.afterStrike i r data).EmissionFits i := by
  rw [State.EmissionFits, State.bufferLine_of_some (s.buffer_afterStrike i r data)]
  exact fun ln hln => ((s.sameRoom_afterStrike i r data).lineFits ln).trans (State.lineFits_of_spaceTest h ln hln)

theorem State.printTaking_storeLaw {s : State} (hs : s.StoreLaw) {i : StreamNo} {r : Resolved} (hr : r ∈ (s.stream i).queue)
    (data : List Byte) : (s.carryOut i r (printTaking s i r data)).StoreLaw := by
  have hgranted : (s.beginGrant i).StoreLaw := State.Remnant.storeLaw (.of_frame rfl) hs
  have hstruck := State.afterStrike_storeLaw hgranted (i := i) hr data
  refine State.carryOut_storeLaw hs (fun _ => hgranted) (fun _ => .rfl) fun hspace => ?_
  have hfits : r.advance = true ∨ r.sync = true → ((s.beginGrant i).afterStrike i r data).EmissionFits i := fun h =>
    have hlines : (printTaking s i r data).lines = ((s.beginGrant i).struck i r data).composed.toList :=
      if_pos (Bool.or_eq_true_iff.2 h)
    State.emissionFits_afterStrike (hlines ▸ hspace)
  rw [printTaking_act]
  split
  · next hadvance =>
    exact ⟨State.emit_storeLaw hstruck (hfits (.inl hadvance)), fun _ => State.emissionFits_of_none (State.buffer_emit _ i)⟩
  · exact ⟨hstruck, fun hsync => hfits (.inr hsync)⟩

end Sys2Proof.Machine
end

section
/-! The store law (R64, R86, R88) is kept by every step. -/

namespace Sys2Proof.Machine

/-! ### Records at the gate -/

theorem State.remnant_answer (s : State) (p : Port) (a : Answer) (o : Bool) (f : List Byte) : (s.answer p a o f).Remnant s :=
  s.remnant_updPort p _

theorem State.remnant_refuse (s : State) (p : Port) (bytes : List Byte) (r : Reason) : (s.refuse p bytes r).Remnant s := by
  refine (State.remnant_answer _ p _ _ _).trans ?_
  unfold State.countRefusal
  split
  · exact .rfl
  · split
    · exact s.remnant_countCond _ _
    · exact .rfl

/-- An end event keeps the store law where the rule of its row does, for the records it takes (R4). -/
theorem State.endEvent_storeLaw {α : Type} {s : State} (hs : s.StoreLaw) (row : Row) (p : Port)
    (operands : Header → Except Reason α) (rule : Header → α → State → Ruling)
    (hrule : ∀ h a u v o f, operands h = .ok a → u.StoreLaw → rule h a u = .taken v o f → v.StoreLaw) :
    (s.endEvent row p operands rule).StoreLaw := by
  have hlow : (s.lowerFrame p).Remnant s := s.remnant_updPort p _
  have hrefuse : ∀ r, ((s.lowerFrame p).refuse p (s.port p).bytes r).Remnant s := fun r => (State.remnant_refuse _ p _ r).trans hlow
  rcases s.endEvent_cases row p operands rule with e | e | ⟨r, -, e⟩ | ⟨h, -, ⟨r, e⟩ | e | ⟨a, u, o, f, ht, e⟩⟩
  · rwa [e]
  · exact e ▸ hlow.storeLaw hs
  · exact e ▸ (hrefuse r).storeLaw hs
  · exact e ▸ (hrefuse r).storeLaw hs
  · exact e ▸ ((State.remnant_answer _ p _ _ _).trans hlow).storeLaw hs
  · have hcounted : (u.countTaken h.stream).Remnant u := State.remnant_updStream_kept rfl rfl
    exact e ▸ ((State.remnant_answer _ p _ _ _).trans hcounted).storeLaw (hrule h a _ u o f ht.read (hlow.storeLaw hs) ht.ruled)

/-- A rule that takes the record with an action that gains no work. -/
theorem State.endEvent_storeLaw_of_remnant {α : Type} {s : State} (hs : s.StoreLaw) (row : Row) (p : Port)
    (operands : Header → Except Reason α) (rule : Header → α → State → Ruling)
    (hrule : ∀ h a u v o f, rule h a u = .taken v o f → v.Remnant u) : (s.endEvent row p operands rule).StoreLaw :=
  s.endEvent_storeLaw hs row p operands rule fun h a u v o f _ hu e => (hrule h a u v o f e).storeLaw hu

/-! ### The rules of the queued records -/

/-- A record stamped from a shadow of the part is put at the tail of a queue (R3, R31): its form length is one of the Form Table. -/
theorem State.enqueue_storeLaw {s : State} (hs : s.StoreLaw) (i : StreamNo) (c : Carriage) (body : Body) (action : Action)
    (sync halt : Bool) : (s.enqueue i (c.stamp s.forms body action sync halt)).StoreLaw := by
  rw [State.storeLaw_iff] at hs ⊢
  obtain ⟨hpages, hlengths⟩ := hs
  refine ⟨hpages, hlengths.forms, fun j => ?_, fun j => ?_⟩
  · rw [State.enqueue, State.stream_updStream]
    split
    · intro r hr
      rcases List.mem_append.1 hr with hr | hr
      · exact hlengths.queue j r hr
      · rw [List.mem_singleton.1 hr]
        exact hlengths.forms c.form
    · exact hlengths.queue j
  · rw [State.enqueue, State.stream_updStream]
    split
    · exact hlengths.buffer j
    · exact hlengths.buffer j

theorem State.takeStillRecord_storeLaw {s : State} (hs : s.StoreLaw) (i : StreamNo) (body : Body) (sync halt : Bool) :
    (s.takeStillRecord i body sync halt).StoreLaw := s.enqueue_storeLaw hs i _ body .none sync halt

theorem State.takeCloseRecord_storeLaw {s : State} (hs : s.StoreLaw) (i : StreamNo) (sync halt : Bool) :
    (s.takeCloseRecord i sync halt).StoreLaw :=
  State.Remnant.storeLaw (State.remnant_updStream_kept rfl rfl) (s.enqueue_storeLaw hs i _ .close .none sync halt)

theorem State.takePrintRecord_storeLaw {s : State} (hs : s.StoreLaw) (i : StreamNo) (action : Action) (data : List Byte)
    (sync halt : Bool) : (s.takePrintRecord i action data sync halt).1.StoreLaw :=
  ((State.remnant_countIf _ _ _ _).trans <| (State.remnant_countIf _ _ _ _).trans <| State.remnant_updStream_kept rfl rfl).storeLaw
    (s.enqueue_storeLaw hs i _ _ action sync halt)

theorem queueControl_storeLaw {h : Header} {b : Body} {u v : State} {o : Bool} {f : List Byte} (hu : u.StoreLaw)
    (e : queueControl h b u = .taken v o f) : v.StoreLaw := by
  unfold queueControl at e
  split at e
  · cases e
  · cases e
    exact u.takeStillRecord_storeLaw hu _ _ _ _

theorem closeRule_storeLaw {h : Header} {a : Unit} {u v : State} {o : Bool} {f : List Byte} (hu : u.StoreLaw)
    (e : closeRule h a u = .taken v o f) : v.StoreLaw := by
  unfold closeRule at e
  split at e
  · cases e
  · cases e
    exact u.takeCloseRecord_storeLaw hu _ _ _

theorem printRule_storeLaw {p : Port} {h : Header} {data : List Byte} {u v : State} {o : Bool} {f : List Byte} (hu : u.StoreLaw)
    (e : printRule p h data u = .taken v o f) : v.StoreLaw := by
  unfold printRule at e
  split at e
  · cases e
  · cases e
    exact u.takePrintRecord_storeLaw hu _ _ _ _ _

/-! ### The rules of the immediate controls -/

theorem senseStreamRule_remnant {p : Port} {i : StreamNo} {u v : State} {o : Bool} {f : List Byte}
    (e : senseStreamRule p i u = .taken v o f) : v.Remnant u := by
  unfold senseStreamRule at e
  split at e
  · cases e
    exact (State.remnant_updPort _ _ _).trans (State.remnant_updStream_kept rfl rfl)
  · cases e

/-- A first open and a re-open keep the stream's queue and buffer (R16, R17). -/
theorem streamOpenRule_remnant {p : Port} {i : StreamNo} {g : OpenOperands} {u v : State} {o : Bool} {f : List Byte}
    (e : streamOpenRule p i g u = .taken v o f) : v.Remnant u := by
  unfold streamOpenRule at e
  split at e
  · split at e
    · cases e
    · cases e
      exact State.remnant_updStream_kept rfl rfl
  · split at e
    · cases e
    · cases e
      exact State.remnant_updStream_kept rfl rfl

theorem streamReleaseRule_remnant {i : StreamNo} {u v : State} {o : Bool} {f : List Byte}
    (e : streamReleaseRule i u = .taken v o f) : v.Remnant u := by
  unfold streamReleaseRule at e
  split at e
  · cases e
  · cases e
    exact State.remnant_updStream_kept rfl rfl

theorem engineSetRule_remnant {g : EngineSettings} {u v : State} {o : Bool} {f : List Byte}
    (e : engineSetRule g u = .taken v o f) : v.Remnant u := by
  unfold engineSetRule at e
  split at e
  · cases e
    exact .of_frame rfl
  · cases e

/-- The length a FORM LOAD carries is a form length (R27). -/
theorem readFormLoad_length {data : List Byte} {a : Fin 4 × Form} (h : readFormLoad data = .ok a) : formLength a.2.length := by
  unfold readFormLoad at h
  split at h
  · split at h
    · cases h
    · split at h
      · split at h
        · split at h
          · next hrange =>
            cases h
            exact ⟨hrange.1, hrange.2.1⟩
          · cases h
        · cases h
      · cases h
  · cases h

theorem formLoadRule_storeLaw {k : Fin 4} {form : Form} {u v : State} {o : Bool} {f : List Byte} (hu : u.StoreLaw)
    (hform : formLength form.length) (e : formLoadRule k form u = .taken v o f) : v.StoreLaw := by
  unfold formLoadRule at e
  split at e
  · cases e
  · cases e
    rw [State.storeLaw_iff] at hu ⊢
    obtain ⟨hpages, hlengths⟩ := hu
    refine ⟨hpages, fun j => ?_, hlengths.queue, hlengths.buffer⟩
    rw [Bank.get_set]
    split
    · exact hform
    · exact hlengths.forms j

/-! ### Every command, every step -/

theorem exec_storeLaw (c : Instr) (s : State) (hs : s.StoreLaw) : ∃ t, exec c s = .next t ∧ t.StoreLaw := by
  have keeps {t : State} (e : exec c s = .next t) (h : t.StoreLaw) : ∃ t, exec c s = .next t ∧ t.StoreLaw := ⟨t, e, h⟩
  have remnant {t : State} (e : exec c s = .next t) (h : t.Remnant s) : ∃ t, exec c s = .next t ∧ t.StoreLaw :=
    keeps e (h.storeLaw hs)
  cases c with
  | powerOnReset =>
    obtain ⟨-, -, -, hreset, -⟩ := resetMeetsTheLaws
    exact keeps rfl (State.Remnant.storeLaw (.of_frame rfl) hreset)
  | portReset p => exact remnant rfl (s.remnant_resetPort p)
  | resetRelease p => exact remnant rfl (s.remnant_updPort p _)
  | frameRise p => exact remnant rfl (s.remnant_updPort p _)
  | answerReturn p n => exact remnant rfl (s.remnant_updPort p _)
  | byteStrobe p b => exact remnant rfl (s.remnant_updPort p _)
  | print p => exact keeps rfl (s.endEvent_storeLaw hs _ p _ _ fun _ _ _ _ _ _ _ => printRule_storeLaw)
  | mark p => exact keeps rfl (s.endEvent_storeLaw hs _ p _ _ fun h id _ _ _ _ _ => queueControl_storeLaw (h := h) (b := .mark id))
  | close p => exact keeps rfl (s.endEvent_storeLaw hs _ p _ _ fun _ _ _ _ _ _ _ => closeRule_storeLaw)
  | xlateLoad p | pairLoad p | pairClear p | geometryLoad p | streamSet p | overlayBegin p | overlayEntries p | overlayEnd p =>
    exact keeps rfl (s.endEvent_storeLaw hs _ p _ _ fun _ _ _ _ _ _ _ => queueControl_storeLaw)
  | senseDevice p | senseMark p | portSet p =>
    exact keeps rfl (s.endEvent_storeLaw_of_remnant hs _ p _ _ fun _ _ u _ _ _ e => by cases e; exact u.remnant_updPort p _)
  | senseStream p => exact keeps rfl (s.endEvent_storeLaw_of_remnant hs _ p _ _ fun _ _ _ _ _ _ => senseStreamRule_remnant)
  | streamOpen p => exact keeps rfl (s.endEvent_storeLaw_of_remnant hs _ p _ _ fun _ _ _ _ _ _ => streamOpenRule_remnant)
  | streamRelease p => exact keeps rfl (s.endEvent_storeLaw_of_remnant hs _ p _ _ fun _ _ _ _ _ _ => streamReleaseRule_remnant)
  | cancel p =>
    exact keeps rfl (s.endEvent_storeLaw_of_remnant hs _ p _ _ fun h _ u _ _ _ e => by cases e; exact u.remnant_cancelStream h.stream)
  | formLoad p =>
    exact keeps rfl (s.endEvent_storeLaw hs _ p _ _ fun _ _ _ _ _ _ hread hu =>
      formLoadRule_storeLaw hu (readFormLoad_length (checkControl_eq_ok hread)))
  | formSelect p =>
    exact keeps rfl (s.endEvent_storeLaw_of_remnant hs _ p _ _ fun _ _ u _ _ _ e => by
      cases e; exact State.remnant_updStream_kept rfl rfl)
  | stop p =>
    exact keeps rfl (s.endEvent_storeLaw_of_remnant hs _ p _ _ fun _ _ u _ _ _ e => by cases e; exact u.remnant_stopRequest _)
  | resume p =>
    exact keeps rfl (s.endEvent_storeLaw_of_remnant hs _ p _ _ fun _ _ u _ _ _ e => by cases e; exact u.remnant_start)
  | engineSet p => exact keeps rfl (s.endEvent_storeLaw_of_remnant hs _ p _ _ fun _ _ _ _ _ _ => engineSetRule_remnant)
  | takePrint => exact keeps rfl (State.take_storeLaw hs _ fun _ _ data hr => State.printTaking_storeLaw hs hr data)
  | takeMark => exact keeps rfl (State.take_storeLaw hs _ fun i r id _ => State.markTaking_storeLaw hs i r id)
  | takeClose => exact keeps rfl (State.take_storeLaw hs _ fun i r _ _ => State.closeTaking_storeLaw hs i r)
  | takeXlateLoad =>
    exact keeps rfl (State.take_storeLaw hs _ fun i r load _ =>
      State.controlTaking_storeLaw hs i r (fun v => v.remnant_fenceTest i load.1) fun v => v.remnant_loadTable i _ _)
  | takePairLoad =>
    exact keeps rfl (State.take_storeLaw hs _ fun i r load _ =>
      State.controlTaking_storeLaw hs i r (fun v => v.remnant_fenceTest i load.1) fun v => v.remnant_applyPairs i _ _)
  | takePairClear =>
    exact keeps rfl (State.take_storeLaw hs _ fun i r k _ =>
      State.controlTaking_storeLaw hs i r (fun v => v.remnant_fenceTest i k) fun v => v.remnant_loadTable i _ _)
  | takeGeometryLoad =>
    exact keeps rfl (State.take_storeLaw hs _ fun i r _ _ =>
      State.controlTaking_storeLaw hs i r (fun _ => .rfl) fun _ => .of_frame rfl)
  | takeStreamSet =>
    exact keeps rfl (State.take_storeLaw hs _ fun i r _ _ =>
      State.controlTaking_storeLaw hs i r (fun _ => .rfl) fun _ => State.remnant_updStream_kept rfl rfl)
  | takeOverlayBegin =>
    exact keeps rfl (State.take_storeLaw hs _ fun i r load _ =>
      State.controlTaking_storeLaw hs i r (fun v => v.remnant_beginTest i load.1) fun v => v.remnant_beginLoad i _ _)
  | takeOverlayEntries =>
    exact keeps rfl (State.take_storeLaw hs _ fun i r _ _ =>
      State.controlTaking_storeLaw hs i r (fun _ => .rfl) fun v => v.remnant_addEntries i _)
  | takeOverlayEnd =>
    exact keeps rfl (State.take_storeLaw hs _ fun i r _ _ =>
      State.controlTaking_storeLaw hs i r (fun _ => .rfl) fun v => v.remnant_endLoad i)
  | pageAgeExpiry i => exact remnant rfl (State.remnant_updStream_kept rfl rfl)
  | selection => exact remnant rfl s.remnant_select
  | renderingComplete => exact remnant rfl s.remnant_renderingDone
  | sheet => exact remnant rfl s.remnant_issueSheet
  | sendComplete => exact remnant rfl s.remnant_sendDone
  | ready => exact remnant rfl s.remnant_readyReport
  | notReady => exact remnant rfl (s.remnant_lossOfReadiness _ _)
  | trayEmpty n | stackerFull n => exact remnant rfl (s.remnant_numberedReport n _ _)
  | stacked tag => exact remnant rfl (s.remnant_stackedReport tag)
  | jam => exact remnant rfl (s.remnant_jamEvent _ _)
  | restarted => exact remnant rfl ((State.remnant_jamEvent _ _ _).trans (.of_frame rfl))
  | unrecognisedReport code => exact keeps rfl hs
  | stackTimeout => exact remnant rfl s.remnant_stackTimerExpires
  | panelStart k => exact remnant rfl (s.remnant_panelSample k _ State.remnant_start)
  | panelStop k => exact remnant rfl (s.remnant_panelSample k _ fun u => u.remnant_stopRequest _)
  | purge k => exact remnant rfl (s.remnant_panelSample k _ State.remnant_purge)
  | keySample k => exact remnant rfl (s.remnant_panelSample k _ fun _ => .rfl)

/-- Settles O54: a command on the rest of the queue keeps the law, and so does the grant made on an empty queue. -/
theorem everyStepKeepsTheStoreLaw : Obligations.EveryStepKeepsTheStoreLaw := by
  unfold Obligations.EveryStepKeepsTheStoreLaw
  intro s t hs h
  unfold step at h
  split at h
  · cases h
    exact s.remnant_makeGrant.storeLaw hs
  · next c rest _ =>
    obtain ⟨u, hu, hlaw⟩ := exec_storeLaw c { s with pending := rest } hs
    rw [hu] at h
    cases h
    exact hlaw

end Sys2Proof.Machine
end

section
/-! The Translate Store and the strike: what a load leaves in the tables (R46, R51, R53), and what a PRINT record's bytes do to the cells,
byte by byte (R45, R66), by the rules of the cell merge and the glyph merge (R68 to R70). -/

namespace Sys2Proof.Machine

/-! ### Pair loads (R46, R53) -/

/-- The table has an entry with the key of `e` (R46). -/
abbrev HasKey (pairs : List PairEntry) (e : PairEntry) : Prop := ∃ p ∈ pairs, p.glyph = e.glyph ∧ p.mark = e.mark

theorem pairLookup_isSome_iff (pairs : List PairEntry) (e : PairEntry) :
    (pairLookup pairs e.glyph e.mark).isSome = true ↔ HasKey pairs e := by
  rw [← not_iff_not, Bool.not_eq_true, Option.isSome_eq_false_iff, Option.isNone_iff_eq_none, pairLookup_eq_none]
  simp

/-- One entry of a load that finds its key, or room in the table (R53). -/
theorem pairLoadOne_of_room {pairs : List PairEntry} {e : PairEntry} (h : HasKey pairs e ∨ pairs.length < 128) :
    pairLoadOne pairs e = (pairInsert e pairs, false) :=
  if_pos (h.imp_left (pairLookup_isSome_iff pairs e).2)

/-- One entry of a load that finds neither is dropped (R53). -/
theorem pairLoadOne_of_full {pairs : List PairEntry} {e : PairEntry} (hkey : ¬ HasKey pairs e) (hfull : 128 ≤ pairs.length) :
    pairLoadOne pairs e = (pairs, true) :=
  if_neg fun h => h.elim (fun hs => hkey ((pairLookup_isSome_iff pairs e).1 hs)) (Nat.not_lt.2 hfull)

/-- A record of one entry. -/
theorem pairLoadAll_singleton (pairs : List PairEntry) (e : PairEntry) : pairLoadAll pairs [e] = pairLoadOne pairs e := by
  simp [pairLoadAll]

/-- The entries of a record are applied one after another (R53). -/
theorem pairLoadAll_cons (pairs : List PairEntry) (e : PairEntry) (es : List PairEntry) :
    pairLoadAll pairs (e :: es) =
      ((pairLoadAll (pairLoadOne pairs e).1 es).1, (pairLoadOne pairs e).2 || (pairLoadAll (pairLoadOne pairs e).1 es).2) := rfl

/-- Settles O29. -/
theorem loadedTablesHoldTheEntries : Obligations.LoadedTablesHoldTheEntries := by
  unfold Obligations.LoadedTablesHoldTheEntries
  refine ⟨fun x first entries _ j => xlateReplace_get x first entries j, fun a b => decide_eq_true_iff, fun pairs hsorted => ?_⟩
  refine ⟨rfl, fun e es => ?_⟩
  intro has one
  simp only [one, pairLoadAll_singleton]
  refine ⟨pairLoadAll_cons pairs e es, ?dropped, fun hkey hfull => ?full, fun hroom => ?kept⟩
  case dropped =>
    by_cases hroom : HasKey pairs e ∨ pairs.length < 128
    · have hnot : ¬(¬ has ∧ 128 ≤ pairs.length) := fun ⟨hkey, hfull⟩ => hroom.elim hkey (Nat.not_lt.2 hfull)
      simp only [pairLoadOne_of_room hroom, hnot, Bool.false_eq_true]
    · obtain ⟨hkey, hfull⟩ := not_or.1 hroom
      have hboth : ¬ has ∧ 128 ≤ pairs.length := ⟨hkey, Nat.not_lt.1 hfull⟩
      simp only [pairLoadOne_of_full hkey (Nat.not_lt.1 hfull), hboth, not_false_eq_true, and_self]
  case full => rw [pairLoadOne_of_full hkey hfull]
  case kept =>
    rw [pairLoadOne_of_room hroom]
    exact ⟨pairInsert_pairwise hsorted e, pairInsert_mem hsorted e⟩

/-! ### The cell merge and the glyph merge (R68, R69) -/

/-- A merge finds VOID CODE exactly where the translate entry is VOID (R45). -/
theorem Cell.merge_void_iff (c : Cell) (pairs : List PairEntry) (x : XlateEntry) : (c.merge pairs x).void = true ↔ x = .void := by
  cases x with
  | space => simp [Cell.merge]
  | underscore => simp [Cell.merge]
  | void => simp [Cell.merge]
  | glyph g m =>
    simp only [Cell.merge, Cell.mergeGlyph, reduceCtorEq, iff_false, Bool.not_eq_true]
    repeat' split
    all_goals rfl

section
variable {c : Cell} {pairs : List PairEntry} {g : Glyph} {m : Option MarkNo}

/-- Rule 1 of R69: the first glyph of the cell. -/
theorem Cell.mergeGlyph_of_empty (hbase : c.base = none) :
    c.mergeGlyph pairs g m = ⟨{ c with base := some g, baseMark := m, weight := 1 }, false, false⟩ := by
  rw [Cell.mergeGlyph, hbase]

/-- Rule 2 of R69: the base glyph struck again. -/
theorem Cell.mergeGlyph_of_base (hbase : c.base = some g) :
    c.mergeGlyph pairs g m = ⟨{ c with weight := min 3 (c.weight + 1) }, false, false⟩ := by
  rw [Cell.mergeGlyph, hbase]
  exact if_pos rfl

/-- Rules 3 to 7 of R69, on another base glyph than the incoming one. -/
theorem Cell.mergeGlyph_of_other (hsome : c.base ≠ none) (hother : c.base ≠ some g) :
    c.mergeGlyph pairs g m =
      if c.overGlyph = some g then ⟨c, false, false⟩
      else
        match c.rule4 pairs m, c.rule5 pairs g with
        | some composite, _ => ⟨{ c with base := some composite, baseMark := none }, false, false⟩
        | none, some composite => ⟨{ c with base := some composite, baseMark := none }, false, false⟩
        | none, none => if c.overGlyph = none then ⟨{ c with overGlyph := some g }, false, false⟩ else ⟨c, false, true⟩ := by
  obtain ⟨b, hb⟩ := Option.ne_none_iff_exists'.1 hsome
  have hne : b ≠ g := fun e => hother (by rw [hb, e])
  simp only [Cell.mergeGlyph, hb, if_neg hne]
  cases c.rule4 pairs m <;> cases c.rule5 pairs g <;> rfl

/-- Rule 4 of R69 answers the composite of the entry with the key (base, m) (R47). -/
theorem Cell.rule4_eq_some (h : pairs.Pairwise fun a b => a.keyBefore b = true) (x : Glyph) :
    c.rule4 pairs m = some x ↔ ∃ e ∈ pairs, c.base = some e.glyph ∧ m = some e.mark ∧ e.composite = x := by
  unfold Cell.rule4
  split
  · next b k hb =>
    rw [pairLookup_eq_some h, hb]
    constructor
    · exact fun hmem => ⟨_, hmem, rfl, rfl, rfl⟩
    · rintro ⟨e, hmem, hg, hk, rfl⟩
      cases hg
      cases hk
      exact hmem
  · next hnot =>
    simp only [reduceCtorEq, false_iff, not_exists, not_and]
    exact fun e _ hg hk => absurd hk (hnot e.glyph e.mark hg)

/-- Rule 5 of R69 answers the composite of the entry with the key (g, base mark) (R47). -/
theorem Cell.rule5_eq_some (h : pairs.Pairwise fun a b => a.keyBefore b = true) (x : Glyph) :
    c.rule5 pairs g = some x ↔ ∃ e ∈ pairs, e.glyph = g ∧ c.baseMark = some e.mark ∧ e.composite = x := by
  unfold Cell.rule5
  split
  · next k hk =>
    rw [pairLookup_eq_some h, hk]
    constructor
    · exact fun hmem => ⟨_, hmem, rfl, rfl, rfl⟩
    · rintro ⟨e, hmem, rfl, hm, rfl⟩
      cases hm
      exact hmem
  · next hnone => simp [hnone]

end

/-! ### A strike, byte by byte (R45, R66, R70) -/

/-- VOID CODE is found where the entry of a byte is VOID (R45). -/
theorem strikeFrom_void_iff (t : TableSet) (place : Nat) (cells : Bank Cell 160) (data : List Byte) (h : place + data.length ≤ 160) :
    (strikeFrom t place cells data).void = true ↔ ∃ b ∈ data, t.lookup b = .void := by
  induction data generalizing place cells with
  | nil => simp [strikeFrom]
  | cons b bs ih =>
    rw [List.length_cons] at h
    rw [strikeFrom, dif_pos (show place < 160 by omega)]
    simp only [Bool.or_eq_true, Cell.merge_void_iff, ih _ _ (show place + 1 + bs.length ≤ 160 by omega), List.exists_mem_cons_iff]

/-- COLLISION is found where the merge of a byte into the cell of its place drops its glyph (R70). -/
theorem strikeFrom_collision_iff (t : TableSet) (place : Nat) (cells : Bank Cell 160) (data : List Byte)
    (h : place + data.length ≤ 160) :
    (strikeFrom t place cells data).collision = true ↔
      ∃ (j : Fin 160) (b : Byte), place ≤ j.val ∧ data[j.val - place]? = some b ∧
        ((cells.get j).merge t.pairs (t.lookup b)).collision = true := by
  induction data generalizing place cells with
  | nil => simp [strikeFrom]
  | cons b bs ih =>
    rw [List.length_cons] at h
    have hp : place < 160 := by omega
    rw [strikeFrom, dif_pos hp]
    simp only [Bool.or_eq_true, ih _ _ (show place + 1 + bs.length ≤ 160 by omega)]
    constructor
    · rintro (hfirst | ⟨j, a, hj, ha, hcol⟩)
      · exact ⟨⟨place, hp⟩, b, Nat.le_refl _, by simp, hfirst⟩
      · have hne : (⟨place, hp⟩ : Fin 160) ≠ j := fun e => by rw [← e] at hj; exact absurd hj (by simp)
        rw [Bank.get_set_ne _ _ hne] at hcol
        refine ⟨j, a, by omega, ?_, hcol⟩
        rwa [show j.val - place = (j.val - (place + 1)) + 1 by omega, List.getElem?_cons_succ]
    · rintro ⟨j, a, hj, ha, hcol⟩
      rcases Nat.eq_or_lt_of_le hj with rfl | hlt
      · rw [Nat.sub_self, List.getElem?_cons_zero] at ha
        cases ha
        exact .inl hcol
      · have hne : (⟨place, hp⟩ : Fin 160) ≠ j := fun e => by rw [← e] at hlt; exact absurd hlt (by simp)
        rw [show j.val - place = (j.val - (place + 1)) + 1 by omega, List.getElem?_cons_succ] at ha
        exact .inr ⟨j, a, hlt, ha, by rwa [Bank.get_set_ne _ _ hne]⟩

/-- Settles O26: the strike by its cells and its two conditions, and the merge rule by rule. -/
theorem strikesMergeIntoCells : Obligations.StrikesMergeIntoCells := by
  unfold Obligations.StrikesMergeIntoCells
  refine ⟨fun t cells data hlen => ⟨fun j => ?cells, ?void, ?collision⟩,
    fun c pairs hsorted => ⟨rfl, rfl, rfl, fun g m => ?merge⟩⟩
  case cells =>
    have h := strikeFrom_get t 0 cells data j
    rw [if_pos (Nat.zero_le _)] at h
    exact h
  case void => exact strikeFrom_void_iff t 0 cells data (by omega)
  case collision => simpa [TableSet.lookup] using strikeFrom_collision_iff t 0 cells data (by omega)
  case merge =>
    intro merged fourth fifth
    refine ⟨Cell.mergeGlyph_of_empty, Cell.mergeGlyph_of_base, fun hsome hother => ?_⟩
    have hmerge : c.merge pairs (.glyph g m) = _ := Cell.mergeGlyph_of_other hsome hother
    refine ⟨fun hover => by rw [hmerge, if_pos hover], fun hover => ?_⟩
    rw [if_neg hover] at hmerge
    rw [hmerge]
    refine ⟨fun e ⟨hmem, hbase, hm⟩ => ?_, fun hno4 => ?_⟩
    · rw [(Cell.rule4_eq_some hsorted e.composite).2 ⟨e, hmem, hbase, hm, rfl⟩]
    · have h4 : c.rule4 pairs m = none := Option.eq_none_iff_forall_ne_some.2 fun x hx => by
        obtain ⟨e, hmem, hbase, hm, -⟩ := (Cell.rule4_eq_some hsorted x).1 hx
        exact hno4 e ⟨hmem, hbase, hm⟩
      rw [h4]
      refine ⟨fun e ⟨hmem, hg, hm⟩ => ?_, fun hno5 => ?_⟩
      · rw [(Cell.rule5_eq_some hsorted e.composite).2 ⟨e, hmem, hg, hm, rfl⟩]
      · have h5 : c.rule5 pairs g = none := Option.eq_none_iff_forall_ne_some.2 fun x hx => by
          obtain ⟨e, hmem, hg, hm, -⟩ := (Cell.rule5_eq_some hsorted x).1 hx
          exact hno5 e ⟨hmem, hg, hm⟩
        rw [h5]
        exact ⟨fun hnone => if_pos hnone, fun hnot => if_neg hnot⟩

end Sys2Proof.Machine
end

section
/-! Drawing and clipping (R56, R57, R117 to R119, R123, R141): when each part of a page is black at a sheet dot, and when its cells are
clipped at the sheet. -/

namespace Sys2Proof.Machine

theorem exists_mem_positioned (cells : List LineCell) {P : Nat × LineCell → Prop} :
    (∃ q ∈ positioned cells, P q) ↔ ∃ (j : Nat) (c : LineCell), cells[j]? = some c ∧ P (j + 1, c) := by
  constructor
  · rintro ⟨⟨p, c⟩, hmem, hP⟩
    obtain ⟨hp, hc⟩ := (positioned_mem cells p c).1 hmem
    exact ⟨p - 1, c, hc, by rwa [Nat.sub_add_cancel hp]⟩
  · rintro ⟨j, c, hc, hP⟩
    exact ⟨(j + 1, c), (positioned_mem cells (j + 1) c).2 ⟨Nat.le_add_left 1 j, hc⟩, hP⟩

/-! ### Black dots of a line (R117, R118) -/

section
variable (cell : CellSize) (c : LineCell) (x right y column row : Nat)

/-- Glyphs 0 to 32 and 127 have no black dot (R57). -/
theorem glyphBlack_iff (g : Glyph) :
    glyphBlack cell g column row = true ↔ 32 < g.val ∧ g.val ≠ 127 ∧ Config.glyphMatrix cell g column row = true := by
  simp [glyphBlack, and_assoc]

theorem glyphInk_iff (g : Glyph) :
    glyphInk cell g x y column row = true ↔
      x ≤ column ∧ column < x + cellWidth cell ∧ y ≤ row ∧ row < y + cellHeight cell ∧ 32 < g.val ∧ g.val ≠ 127 ∧
        Config.glyphMatrix cell g (column - x) (row - y) = true := by
  simp only [glyphInk, Bool.and_eq_true, decide_eq_true_eq, glyphBlack_iff, and_assoc]

theorem baseInk_iff :
    baseInk cell c x y column row = true ↔
      ∃ g k, c.base = some g ∧ k < c.weight ∧ glyphInk cell g (x + k) y column row = true := by
  unfold baseInk
  cases c.base <;> simp

theorem overInk_iff :
    overInk cell c x y column row = true ↔ ∃ g, c.overGlyph = some g ∧ glyphInk cell g x y column row = true := by
  unfold overInk
  cases c.overGlyph <;> simp

theorem underlineInk_iff :
    underlineInk cell c x right y column row = true ↔
      c.underline = true ∧ x ≤ column ∧ column < right ∧ y + cellHeight cell - 2 ≤ row ∧ row < y + cellHeight cell := by
  simp only [underlineInk, Bool.and_eq_true, decide_eq_true_eq]

end

/-- A page's lines are black where the base, the over glyph or the underline of a cell is (R141 step 3). -/
theorem linesInk_iff (p : Page) (column row : Nat) :
    linesInk p column row = true ↔
      ∃ l ∈ p.lines, ∃ (j : Nat) (c : LineCell), l.cells[j]? = some c ∧
        let x := placeX p.geometry p.width (j + 1)
        let y := placeY p.geometry p.length p.pitch l.line
        baseInk p.cellSize c x y column row = true ∨ overInk p.cellSize c x y column row = true ∨
          underlineInk p.cellSize c x (placeX p.geometry p.width (j + 2)) y column row = true := by
  simp only [linesInk, List.any_eq_true, exists_mem_positioned, Bool.or_eq_true, or_assoc]

/-! ### Black dots of an overlay entry (R123) -/

theorem OverlayEntry.ink_iff (e : OverlayEntry) (column row : Nat) :
    e.ink column row = true ↔ ∃ i < e.repeatCount, e.copyInk (i * e.step) column row = true := by
  simp [OverlayEntry.ink]

/-! ### Clipping (R119) -/

theorem pageClipped_iff (p : Page) (sheetWidth sheetHeight : Nat) :
    pageClipped p sheetWidth sheetHeight = true ↔
      ∃ l ∈ p.lines, ∃ (j : Nat) (c : LineCell), l.cells[j]? = some c ∧
        cellClipped p l.line (j + 1) c sheetWidth sheetHeight = true := by
  simp only [pageClipped, List.any_eq_true, exists_mem_positioned]

/-- A cell whose over glyph stands only beside a base (R65) draws a glyph where it has a base, and the weight copies of the base reach
furthest right. -/
theorem cellClipped_iff {c : LineCell} (hsound : c.base = none → c.overGlyph = none) (p : Page)
    (line position sheetWidth sheetHeight : Nat) :
    cellClipped p line position c sheetWidth sheetHeight = true ↔
      let x := placeX p.geometry p.width position
      let y := placeY p.geometry p.length p.pitch line
      let right := placeX p.geometry p.width (position + 1)
      (c.base ≠ none ∧
        (sheetWidth < x + cellWidth p.cellSize + (c.weight - 1) ∨ sheetHeight < y + cellHeight p.cellSize)) ∨
      (c.underline = true ∧ x < right ∧ (sheetWidth < right ∨ sheetHeight < y + cellHeight p.cellSize)) := by
  simp only [cellClipped, Bool.or_eq_true, Bool.and_eq_true, decide_eq_true_eq, and_assoc]
  refine or_congr_left ?_
  cases hbase : c.base with
  | none => simp [LineCell.drawsGlyph, hbase, hsound hbase]
  | some g => simp [LineCell.drawsGlyph, LineCell.glyphRight, hbase]

/-- Settles O39: the lines, the overlay entries and the clipped cells, part by part. -/
theorem drawingAndClipping : Obligations.DrawingAndClipping := by
  unfold Obligations.DrawingAndClipping
  refine ⟨fun p column row => ?lines, fun e column row => ?overlay, fun p sheetWidth sheetHeight hsound => ?clipped⟩
  case lines =>
    have h := linesInk_iff p column row
    simp only [baseInk_iff, overInk_iff, underlineInk_iff, glyphInk_iff] at h
    exact h
  case overlay =>
    rw [OverlayEntry.ink_iff]
    refine exists_congr fun i => and_congr_right fun _ => ?_
    unfold OverlayEntry.copyInk
    cases e.shape with
    | hrule length thickness => exact decide_eq_true_iff
    | vrule length thickness => exact decide_eq_true_iff
    | band width height density => cases density <;> simp [Density.ink, and_assoc]
  case clipped =>
    rw [pageClipped_iff]
    refine exists_congr fun l => and_congr_right fun hl => exists_congr fun j => exists_congr fun c => and_congr_right fun hc => ?_
    exact cellClipped_iff (hsound l hl c (List.mem_of_getElem? hc)).1 p l.line (j + 1) sheetWidth sheetHeight

end Sys2Proof.Machine
end

section
/-! The takings of PRINT records and of the table loads (R63, R66, R77, R80, R81): how the steps of R63 end, and what the emission that
comes first leaves of the other streams' buffers, on which the fence test turns. -/

namespace Sys2Proof.Machine

/-! ### The end of a taking (R63) -/

theorem State.stopRequest_taking (s : State) (c : Cause) : (s.stopRequest c).taking = s.taking := by rw [State.stopRequest_frame]

/-- Steps 6 and 7 of R63. -/
theorem State.finishTaking_eq (s : State) (i : StreamNo) (r : Resolved) : s.finishTaking i r = s.finished i r := by
  have hends : ∀ u : State, u.taking = none → u.testStopped = u.takingEnds := fun u hu => by
    have hsame : ({ u with taking := none } : State) = u := by rw [← hu]
    rw [← State.endGrant_eq, State.endGrant, hsame]
  have hrest : ∀ u : State, ({ u with taking := none } : State).takingEnds = u.takingEnds := fun _ => rfl
  unfold State.finishTaking State.finished State.actHalt
  dsimp only
  split
  · exact hends _ (State.stopRequest_taking _ _)
  · exact (hends _ rfl).trans (hrest _)

section
variable {s u : State} {i : StreamNo} {r : Resolved} {k : Taking}

/-- A taking that finds its space and passes its control tests. -/
theorem State.carryOut_of_passed (hspace : (s.beginGrant i).spaceTest i k.lines = true)
    (htests : k.tests (k.before (s.beginGrant i)) = (u, none)) : s.carryOut i r k = (k.act u).finished i r := by
  unfold State.carryOut
  simp only [if_pos hspace, htests, State.finishTaking_eq]

/-- A taking that finds its space and fails a control test. -/
theorem State.carryOut_of_waiting {w : Wait} (hspace : (s.beginGrant i).spaceTest i k.lines = true)
    (htests : k.tests (k.before (s.beginGrant i)) = (u, some w)) : s.carryOut i r k = u.waits i w := by
  unfold State.carryOut
  simp only [if_pos hspace, htests]
  exact State.endGrant_eq _

end

/-! ### The buffers of the other streams under an emission (R71) -/

theorem State.buffer_updStream_kept {s : State} {i j : StreamNo} {f : Stream → Stream}
    (hf : (f (s.stream i)).buffer = (s.stream i).buffer) : ((s.updStream i f).stream j).buffer = (s.stream j).buffer := by
  rw [State.stream_updStream]
  split
  · next e => exact e ▸ hf
  · rfl

theorem State.buffer_endStoreWaits (s : State) (j : StreamNo) : (s.endStoreWaits.stream j).buffer = (s.stream j).buffer := by
  rw [State.stream_endStoreWaits]
  split <;> rfl

theorem State.buffer_closePage (s : State) (i j : StreamNo) : ((s.closePage i).stream j).buffer = (s.stream j).buffer := by
  unfold State.closePage
  split
  · rfl
  · next p _ =>
    have hclosed : (((s.updPage p.ref fun q => { q with state := .closed, reservation := 0 }).updStream i
        fun t => { t with pageAge := .stopped }).stream j).buffer = (s.stream j).buffer := State.buffer_updStream_kept rfl
    dsimp only
    split
    · exact (State.buffer_endStoreWaits _ j).trans hclosed
    · exact hclosed

theorem State.buffer_makePage (s : State) (i j : StreamNo) (ln : ComposedLine) (n : Word16) (b : Bool) :
    ((s.makePage i ln n b).stream j).buffer = (s.stream j).buffer := State.buffer_updStream_kept rfl

theorem State.buffer_makeBlanks (s : State) (i j : StreamNo) (ln : ComposedLine) (n : Nat) :
    ((s.makeBlanks i ln n).stream j).buffer = (s.stream j).buffer := by
  induction n generalizing s with
  | zero => rfl
  | succ n ih => exact (ih _).trans (s.buffer_makePage i j ln _ true)

theorem State.buffer_appendLine (s : State) (i j : StreamNo) (ln : ComposedLine) :
    ((s.appendLine i ln).stream j).buffer = (s.stream j).buffer := by
  rw [State.appendLine_frame]
  rfl

theorem State.buffer_openWith (s : State) (i j : StreamNo) (ln : ComposedLine) :
    ((s.openWith i ln).stream j).buffer = (s.stream j).buffer :=
  (State.buffer_appendLine _ i j ln).trans <| Eq.trans (State.buffer_updStream_kept rfl) <|
    (State.buffer_makePage _ i j ln _ false).trans <| (State.buffer_makeBlanks _ i j ln _).trans <|
      State.buffer_updStream_kept rfl

/-- The arrival of a line at the Page Store leaves every assembly buffer (R91). -/
theorem State.buffer_receiveLine (s : State) (i j : StreamNo) (ln : ComposedLine) :
    ((s.receiveLine i ln).stream j).buffer = (s.stream j).buffer := by
  refine Eq.trans (State.buffer_updStream_kept rfl) ?_
  split
  · exact s.buffer_openWith i j ln
  · split
    · exact s.buffer_appendLine i j ln
    · exact (State.buffer_openWith _ i j ln).trans (s.buffer_closePage i j)

/-- An emission leaves the buffers of the other streams. -/
theorem State.buffer_emit_ne (s : State) {i j : StreamNo} (hj : j ≠ i) : ((s.emit i).stream j).buffer = (s.stream j).buffer := by
  unfold State.emit
  split
  · rfl
  · rw [State.stream_reexamineFence_freed, Stream.freed_buffer, State.stream_updStream, if_neg hj.symm]
    split
    · exact Eq.trans (State.buffer_updStream_kept rfl) (s.buffer_receiveLine i j _)
    · rfl

/-! ### The table fence (R80) -/

/-- The fence test asks the other streams' buffers, which an emission leaves. -/
theorem State.fenceClear_emit (s : State) (i : StreamNo) (k : Fin 2) : (s.emit i).fenceClear i k = s.fenceClear i k := by
  rw [Bool.eq_iff_iff, State.fenceClear_iff_buffer, State.fenceClear_iff_buffer]
  exact forall_congr' fun m => forall_congr' fun hm => by rw [s.buffer_emit_ne hm]

@[simp] theorem State.emit_tables (s : State) (i : StreamNo) : (s.emit i).tables = s.tables := by rw [State.emit_frame]

section
variable {s : State} {i : StreamNo} {r : Resolved} {k : Fin 2} {act : State → State}

theorem State.not_fenceClear_iff :
    s.fenceClear i k = false ↔ ∃ j : StreamNo, j ≠ i ∧ ∃ b, (s.stream j).buffer = some b ∧ b.tableSet = k := by
  rw [← Bool.not_eq_true, State.fenceClear_iff_buffer]
  simp

/-- A table load that meets the fence: the buffer is emitted, and the grant ends in a FENCE wait with a claim (R80). -/
theorem State.carryOut_of_fenced (hgranted : s.Granted i r) (hlines : s.takingLines i r = s.bufferLine i)
    (hfenced : s.fenceClear i k = false) :
    s.carryOut i r (controlTaking s i (fun v => v.fenceTest i k) act) =
      (((s.beginGrant i).emit i).updStream i fun t => { t with fenceClaim := some k }).waits i (.fence k) := by
  have hspace : (s.beginGrant i).spaceTest i (s.bufferLine i) = true := hlines ▸ hgranted.2
  have hafter : ((s.beginGrant i).emit i).fenceClear i k = false := ((s.beginGrant i).fenceClear_emit i k).trans hfenced
  exact State.carryOut_of_waiting hspace (if_neg (Bool.eq_false_iff.1 hafter))

/-- A table load that meets no fence is applied after the emission of the buffer (R77, R81). -/
theorem State.carryOut_of_fenceClear (hgranted : s.Granted i r) (hlines : s.takingLines i r = s.bufferLine i)
    (hclear : s.fenceClear i k = true) :
    s.carryOut i r (controlTaking s i (fun v => v.fenceTest i k) act) = (act ((s.beginGrant i).emit i)).finished i r := by
  have hspace : (s.beginGrant i).spaceTest i (s.bufferLine i) = true := hlines ▸ hgranted.2
  have hafter : ((s.beginGrant i).emit i).fenceClear i k = true := ((s.beginGrant i).fenceClear_emit i k).trans hclear
  exact State.carryOut_of_passed hspace (if_pos hafter)

end

/-- A load reads the table set as it stood at the grant: the emission leaves the tables. -/
theorem State.loadTable_emit (s : State) (i : StreamNo) (k : Fin 2) (f : TableSet → TableSet) :
    ((s.beginGrant i).emit i).loadTable i k f =
      ({ (s.beginGrant i).emit i with tables := ((s.beginGrant i).emit i).tables.set k (f (s.tables.get k)) } : State).updStream i
        fun u => { u with fenceClaim := none } := by
  have htables : ((s.beginGrant i).emit i).tables.get k = s.tables.get k := by rw [State.emit_tables]; rfl
  rw [State.loadTable, Bank.modify, htables]

/-- Settles O28: the three loads, each as it meets the fence and as it does not. -/
theorem tableLoadsMeetTheFence : Obligations.TableLoadsMeetTheFence := by
  unfold Obligations.TableLoadsMeetTheFence
  intro s i r hgranted e fenced waited loaded
  have hgrant := hgranted.1
  have hclear : ∀ k, ¬ fenced k → s.fenceClear i k = true := fun k hk => by
    simpa using fun hf => hk (State.not_fenceClear_iff.1 hf)
  refine ⟨fun k first entries hbody => ?xlate, fun k entries hbody => ?pairs, fun k hbody => ?clear⟩
  case xlate =>
    have hlines : s.takingLines i r = s.bufferLine i := by rw [State.takingLines, hbody]
    have htake : exec .takeXlateLoad s = .next _ :=
      congrArg Host.Outcome.next (State.take_of_ownKind (a := (k, first, entries)) hgrant (by rw [hbody]))
    refine ⟨fun hf => ?_, fun hf => ?_⟩
    · rw [htake, State.carryOut_of_fenced hgranted hlines (State.not_fenceClear_iff.2 hf)]
    · rw [htake, State.carryOut_of_fenceClear hgranted hlines (hclear k hf), State.loadTable_emit]
  case pairs =>
    have hlines : s.takingLines i r = s.bufferLine i := by rw [State.takingLines, hbody]
    have htake : exec .takePairLoad s = .next _ :=
      congrArg Host.Outcome.next (State.take_of_ownKind (a := (k, entries)) hgrant (by rw [hbody]))
    refine ⟨fun hf => ?_, fun hf => ?_⟩
    · rw [htake, State.carryOut_of_fenced hgranted hlines (State.not_fenceClear_iff.2 hf)]
    · have htables : ((s.beginGrant i).emit i).tables.get k = s.tables.get k := by rw [State.emit_tables]; rfl
      rw [htake, State.carryOut_of_fenceClear hgranted hlines (hclear k hf)]
      simp only [State.applyPairs, State.loadTable_emit, htables]
      rfl
  case clear =>
    have hlines : s.takingLines i r = s.bufferLine i := by rw [State.takingLines, hbody]
    have htake : exec .takePairClear s = .next _ :=
      congrArg Host.Outcome.next (State.take_of_ownKind (a := k) hgrant (by rw [hbody]))
    refine ⟨fun hf => ?_, fun hf => ?_⟩
    · rw [htake, State.carryOut_of_fenced hgranted hlines (State.not_fenceClear_iff.2 hf)]
    · rw [htake, State.carryOut_of_fenceClear hgranted hlines (hclear k hf), State.loadTable_emit]

/-! ### PRINT records (R66) -/

/-- A strike with its two conditions asks the stream's buffer and table set, and the tables alone (R66, R67). -/
theorem State.strike_congr {t s : State} {i : StreamNo} (ht : t.tables = s.tables) (hb : (t.stream i).buffer = (s.stream i).buffer)
    (ha : (t.stream i).attributes = (s.stream i).attributes) (r : Resolved) (data : List Byte) :
    t.strike i r data = s.strike i r data := by
  simp only [State.strike, Stream.bufferFor, ht, hb, ha]

theorem State.strike_completeLoad (s : State) (i : StreamNo) (r : Resolved) (data : List Byte) :
    (s.completeLoad i).strike i r data = s.strike i r data :=
  State.strike_congr (by rw [State.completeLoad_frame]) (s.buffer_completeLoad i i) (s.sameRoom_completeLoad i).attributes r data

/-- What a strike leaves, by the strike and the struck buffer as they stand before the open load is completed. -/
theorem State.afterStrike_eq (s : State) (i : StreamNo) (r : Resolved) (data : List Byte) :
    s.afterStrike i r data =
      ((((s.completeLoad i).updStream i fun t => { t with buffer := some (s.struck i r data) }).countIf
        (s.strike i r data).void i .voidCode).countIf (s.strike i r data).collision i .collision) := by
  simp only [State.afterStrike, State.strike_completeLoad, State.struck_completeLoad]

/-- The buffer a PRINT record merges into: the OPEN one, or a new one with empty cells (R66 step 1). -/
theorem Stream.bufferFor_eq (t : Stream) (r : Resolved) : t.bufferFor r = t.buffer.getD (r.opens t.attributes.tableSet) := by
  unfold Stream.bufferFor
  cases t.buffer <;> rfl

/-- Settles O25: with the space found, the taking strikes the buffer and, with "advance", emits it. -/
theorem takePrintStrikesTheBuffer : Obligations.TakePrintStrikesTheBuffer := by
  unfold Obligations.TakePrintStrikesTheBuffer
  intro s i r data hgranted hbody u b k struck
  have hbuffer : (s.stream i).bufferFor r = b := Stream.bufferFor_eq _ r
  have hstrike : s.strike i r data = k := by rw [State.strike, hbuffer]
  have hstruck : s.struck i r data = { b with cells := k.cells } := by rw [State.struck, hbuffer, hstrike]
  refine ⟨hstruck, ?_⟩
  have hlines : (printTaking s i r data).lines = s.takingLines i r := by
    rw [State.takingLines, hbody]
    simp only [printTaking, Bool.or_eq_true]
  have htake : exec .takePrint s = .next (s.carryOut i r (printTaking s i r data)) :=
    congrArg Host.Outcome.next (State.take_of_ownKind (a := data) hgranted.1 (by rw [hbody]))
  have hafter : (s.beginGrant i).afterStrike i r data = struck := by
    rw [State.afterStrike_eq]
    show State.countIf (State.countIf (State.updStream u i fun t => { t with buffer := some (s.struck i r data) })
      (s.strike i r data).void i .voidCode) (s.strike i r data).collision i .collision = struck
    rw [hstruck, hstrike]
  rw [htake, State.carryOut_of_passed (hlines ▸ hgranted.2) rfl, printTaking_act, ← hafter]
  rfl

end Sys2Proof.Machine
end

section
/-! The pair tables (R46) under every command: power-on empties them (R48), the three table loads change the set they name under the fence
(R51, R53, R54, R80), and nothing else writes the Translate Store. -/

namespace Sys2Proof.Machine

/-! ### Operations that leave the tables -/

@[simp] theorem State.countIf_tables (s : State) (b : Bool) (i : StreamNo) (k : Cond) : (s.countIf b i k).tables = s.tables := by
  rw [State.countIf_frame]
@[simp] theorem State.deviceCond_tables (s : State) (d : DevCond) : (s.deviceCond d).tables = s.tables := by
  rw [State.deviceCond_eq]
@[simp] theorem State.enterStopped_tables (s : State) : s.enterStopped.tables = s.tables := by rw [State.enterStopped_eq]
@[simp] theorem State.testStopped_tables (s : State) : s.testStopped.tables = s.tables := by rw [State.testStopped_frame]
@[simp] theorem State.stopRequest_tables (s : State) (c : Cause) : (s.stopRequest c).tables = s.tables := by
  rw [State.stopRequest_frame]
@[simp] theorem State.engineCause_tables (s : State) (c : Cause) : (s.engineCause c).tables = s.tables := by
  rw [State.engineCause_frame]
@[simp] theorem State.start_tables (s : State) : s.start.tables = s.tables := by rw [State.start_frame]
@[simp] theorem State.setWait_tables (s : State) (i : StreamNo) (w : Wait) : (s.setWait i w).tables = s.tables := rfl
@[simp] theorem State.discardPages_tables (s : State) (gone : Page → Bool) : (s.discardPages gone).tables = s.tables := by
  rw [State.discardPages_frame]
@[simp] theorem State.closePage_tables (s : State) (i : StreamNo) : (s.closePage i).tables = s.tables := by
  rw [State.closePage_frame]
@[simp] theorem State.attachMark_tables (s : State) (i : StreamNo) (id : Word16) : (s.attachMark i id).tables = s.tables := by
  rw [State.attachMark_frame]
@[simp] theorem State.syncPages_tables (s : State) (i : StreamNo) : (s.syncPages i).tables = s.tables := by
  rw [State.syncPages_frame]
@[simp] theorem State.stackPage_tables (s : State) (p : Page) : (s.stackPage p).tables = s.tables := by
  rw [State.stackPage_frame]
@[simp] theorem State.abandonLoad_tables (s : State) (i : StreamNo) : (s.abandonLoad i).tables = s.tables := by
  rw [State.abandonLoad_frame]
@[simp] theorem State.completeLoad_tables (s : State) (i : StreamNo) : (s.completeLoad i).tables = s.tables := by
  rw [State.completeLoad_frame]
@[simp] theorem State.readySlot_tables (s : State) (i : StreamNo) (k : Fin 8) : (s.readySlot i k).tables = s.tables :=
  State.countIf_tables _ _ i _
@[simp] theorem State.select_tables (s : State) : s.select.tables = s.tables := by rw [State.select_frame]
@[simp] theorem State.recover_tables (s : State) : s.recover.tables = s.tables := by rw [State.recover_frame]
@[simp] theorem State.jamEvent_tables (s : State) (d : DevCond) (c : Cause) : (s.jamEvent d c).tables = s.tables := by
  simp [State.jamEvent]
@[simp] theorem State.cancelStream_tables (s : State) (i : StreamNo) : (s.cancelStream i).tables = s.tables := by
  rw [(s.cancelStream_cancelled i).frame]

/-- A fold of steps that each leave the tables leaves them. -/
theorem State.foldl_tables {f : State → StreamNo → State} (hf : ∀ u i, (f u i).tables = u.tables) (l : List StreamNo) (s : State) :
    (l.foldl f s).tables = s.tables := by
  induction l generalizing s with
  | nil => rfl
  | cons i l ih => exact (ih _).trans (hf s i)

theorem State.resetPort_tables (s : State) (p : Port) : (s.resetPort p).tables = s.tables := by
  unfold State.resetPort
  split
  · rfl
  · refine State.foldl_tables (fun u i => ?_) _ _
    unfold State.unbindFrom
    split
    · exact u.cancelStream_tables i
    · rfl

theorem State.purge_tables (s : State) : s.purge.tables = s.tables := by
  have hcancelled : (allStreams.foldl State.cancelBound s).tables = s.tables := State.foldl_tables (fun u i => by
    unfold State.cancelBound
    split
    · rfl
    · exact u.cancelStream_tables i) _ _
  have hall : s.purgeAll.tables = s.tables := by
    unfold State.purgeAll
    dsimp only
    rw [State.enterStopped_tables, State.discardPages_tables, hcancelled]
  unfold State.purge
  cases s.run with
  | run => rfl
  | stopping => rfl
  | stopped => exact hall
  | check => exact hall

theorem State.confirmCopy_tables (s : State) (r : PageRef) : (s.confirmCopy r).tables = s.tables := by
  unfold State.confirmCopy
  split
  · rfl
  · dsimp only
    split
    · exact State.stackPage_tables _ _
    · rfl

theorem State.stackedReport_tables (s : State) (tag : BitVec 4) : (s.stackedReport tag).tables = s.tables := by
  have hconfirmed : s.confirmOldest.tables = s.tables := by
    unfold State.confirmOldest
    rw [State.testStopped_tables]
    dsimp only
    split
    · exact State.confirmCopy_tables _ _
    · rfl
  unfold State.stackedReport
  split
  · split
    · exact hconfirmed
    · exact s.jamEvent_tables _ _
  · exact s.deviceCond_tables _

theorem State.renderingDone_tables (s : State) : s.renderingDone.tables = s.tables := by
  unfold State.renderingDone
  split
  · rfl
  · split
    · rfl
    · refine (State.countIf_tables _ _ _ _).trans ?_
      split <;> rfl

theorem State.issueSheet_tables (s : State) : s.issueSheet.tables = s.tables := by
  unfold State.issueSheet
  split
  · split <;> rfl
  · rfl

theorem State.sendDone_tables (s : State) : s.sendDone.tables = s.tables := by
  unfold State.sendDone
  split
  · rfl
  · split
    · rfl
    · dsimp only
      split <;> rfl

theorem State.lossOfReadiness_tables (s : State) (d : DevCond) (c : Cause) : (s.lossOfReadiness d c).tables = s.tables := by
  simp [State.lossOfReadiness]

theorem State.numberedReport_tables (s : State) (n : Nat) (d : DevCond) (c : Cause) : (s.numberedReport n d c).tables = s.tables := by
  unfold State.numberedReport
  split
  · exact s.lossOfReadiness_tables d c
  · rfl

theorem State.readyReport_tables (s : State) : s.readyReport.tables = s.tables := by
  unfold State.readyReport
  dsimp only
  split <;> rfl

theorem State.stackTimerExpires_tables (s : State) : s.stackTimerExpires.tables = s.tables := by
  unfold State.stackTimerExpires
  split
  · exact s.jamEvent_tables _ _
  · rfl

theorem State.panelSample_tables (s : State) (r : KeySample) (c : PanelCommand) {effect : State → State}
    (h : ∀ u, (effect u).tables = u.tables) : (s.panelSample r c effect).tables = s.tables := by
  unfold State.panelSample
  split
  · exact h _
  · rfl

theorem State.makeGrant_tables (s : State) : s.makeGrant.tables = s.tables := by
  unfold State.makeGrant
  split <;> rfl

/-! ### Overlay loads -/

theorem State.beginTest_tables (s : State) (i : StreamNo) (k : Fin 8) : (s.beginTest i k).1.tables = s.tables := by
  unfold State.beginTest
  dsimp only
  rw [apply_ite Prod.fst, ite_self]
  split
  · split <;> simp
  · simp

theorem State.beginLoad_tables (s : State) (i : StreamNo) (k : Fin 8) (n : Nat) : (s.beginLoad i k n).tables = s.tables := by
  unfold State.beginLoad
  dsimp only [State.updSlot_tables]
  split
  · split
    · rfl
    · exact s.countCond_tables _ _
  · rfl

theorem State.addEntries_tables (s : State) (i : StreamNo) (entries : List OverlayEntry) : (s.addEntries i entries).tables = s.tables := by
  unfold State.addEntries
  split
  · exact s.countCond_tables i _
  · split
    · exact s.countCond_tables i _
    · exact State.countIf_tables _ _ i _

theorem State.endLoad_tables (s : State) (i : StreamNo) : (s.endLoad i).tables = s.tables := by
  unfold State.endLoad
  split
  · exact s.countCond_tables i _
  · exact s.readySlot_tables i _

/-! ### The gate (R4) -/

theorem State.refuse_tables (s : State) (p : Port) (bytes : List Byte) (r : Reason) : (s.refuse p bytes r).tables = s.tables := by
  show (s.countRefusal p (namedStream bytes) r).tables = s.tables
  unfold State.countRefusal
  split
  · rfl
  · split
    · exact s.countCond_tables _ _
    · rfl

/-- Where the ruling takes the record, the tables are `x`. -/
def Ruling.TakesWith (x : Bank TableSet 2) : Ruling → Prop
  | .taken v _ _ => v.tables = x
  | .held => True
  | .refused _ => True

/-- An end event leaves the tables where its rule does. -/
theorem State.endEvent_tables {α : Type} (s : State) (row : Row) (p : Port) (operands : Header → Except Reason α)
    (rule : Header → α → State → Ruling) (hrule : ∀ h a u, (rule h a u).TakesWith u.tables) :
    (s.endEvent row p operands rule).tables = s.tables := by
  have hrefuse : ∀ r, ((s.lowerFrame p).refuse p (s.port p).bytes r).tables = s.tables := fun r => State.refuse_tables _ p _ r
  rcases s.endEvent_cases row p operands rule with e | e | ⟨r, -, e⟩ | ⟨h, -, ⟨r, e⟩ | e | ⟨a, u, o, f, ht, e⟩⟩
  · rw [e]
  · rw [e]; rfl
  · exact e ▸ hrefuse r
  · exact e ▸ hrefuse r
  · rw [e]; rfl
  · have htaken := hrule h a (s.lowerFrame p)
    rw [ht.ruled] at htaken
    rw [e]
    exact htaken

section
variable (h : Header) (p : Port) (i : StreamNo) (u : State)

theorem queueControl_tables (b : Body) : (queueControl h b u).TakesWith u.tables := by
  unfold queueControl
  split
  · trivial
  · rfl

theorem closeRule_tables (a : Unit) : (closeRule h a u).TakesWith u.tables := by
  unfold closeRule
  split
  · trivial
  · rfl

theorem printRule_tables (data : List Byte) : (printRule p h data u).TakesWith u.tables := by
  unfold printRule
  split
  · trivial
  · exact (State.countIf_tables _ _ _ _).trans (State.countIf_tables _ _ _ _)

theorem senseStreamRule_tables : (senseStreamRule p i u).TakesWith u.tables := by
  unfold senseStreamRule
  split
  · rfl
  · trivial

theorem streamOpenRule_tables (g : OpenOperands) : (streamOpenRule p i g u).TakesWith u.tables := by
  unfold streamOpenRule
  split
  · split
    · trivial
    · rfl
  · split
    · trivial
    · rfl

theorem streamReleaseRule_tables : (streamReleaseRule i u).TakesWith u.tables := by
  unfold streamReleaseRule
  split
  · trivial
  · rfl

theorem formLoadRule_tables (k : Fin 4) (form : Form) : (formLoadRule k form u).TakesWith u.tables := by
  unfold formLoadRule
  split
  · trivial
  · rfl

theorem engineSetRule_tables (g : EngineSettings) : (engineSetRule g u).TakesWith u.tables := by
  unfold engineSetRule
  split
  · rfl
  · trivial

end

/-! ### The takings (R63) -/

@[simp] theorem State.endGrant_tables (s : State) : s.endGrant.tables = s.tables := State.testStopped_tables _

@[simp] theorem State.endWaiting_tables (s : State) (i : StreamNo) (w : Wait) : (s.endWaiting i w).tables = s.tables :=
  State.endGrant_tables _

@[simp] theorem State.finishTaking_tables (s : State) (i : StreamNo) (r : Resolved) : (s.finishTaking i r).tables = s.tables := by
  have hsynced : ((s.dropHead i).actSync i r.sync).tables = s.tables := by
    unfold State.actSync
    split
    · rw [State.syncPages_tables, State.emit_tables]; rfl
    · rfl
  unfold State.finishTaking State.actHalt
  dsimp only
  split
  · rw [State.testStopped_tables, State.stopRequest_tables, hsynced]
  · rw [State.testStopped_tables, hsynced]

/-- Emission and control tests come before a taking's action and leave the tables (R63 steps 2 and 3). -/
structure Taking.TestsFirst (k : Taking) : Prop where
  before : ∀ u, (k.before u).tables = u.tables
  tests : ∀ u, (k.tests u).1.tables = u.tables

/-- A taking leaves the tables, or its tests have passed and they are as its action leaves them. -/
theorem State.carryOut_tables (s : State) (i : StreamNo) (r : Resolved) {k : Taking} (hk : k.TestsFirst) :
    (s.carryOut i r k).tables = s.tables ∨
      ∃ u, k.tests (k.before (s.beginGrant i)) = (u, none) ∧ u.tables = s.tables ∧
        (s.carryOut i r k).tables = (k.act u).tables := by
  have htested : (k.tests (k.before (s.beginGrant i))).1.tables = s.tables := (hk.tests _).trans (hk.before _)
  unfold State.carryOut
  dsimp only
  split
  · split
    · exact .inl ((State.endWaiting_tables _ i _).trans htested)
    · next hnone => exact .inr ⟨_, Prod.ext rfl hnone, htested, State.finishTaking_tables _ i r⟩
  · exact .inl (State.endWaiting_tables _ i _)

/-- A composer command leaves the tables, or it carries out the taking of the granted record. -/
theorem State.take_tables {α : Type} (s : State) (pick : Body → Option α) (kind : State → StreamNo → Resolved → α → Taking) :
    (s.take pick kind).tables = s.tables ∨
      ∃ i r a, s.grant = some (i, r) ∧ pick r.body = some a ∧ s.take pick kind = s.carryOut i r (kind s i r a) := by
  unfold State.take
  split
  · next i r hgrant =>
    split
    · exact .inl rfl
    · next a ha => exact .inr ⟨i, r, a, hgrant, ha, rfl⟩
  · split
    · split
      · exact .inl s.endGrant_tables
      · exact .inl rfl
    · exact .inl rfl

/-- A composer command whose takings leave the tables. -/
theorem State.take_tables_kept {α : Type} (s : State) (pick : Body → Option α) {kind : State → StreamNo → Resolved → α → Taking}
    (hfirst : ∀ i r a, (kind s i r a).TestsFirst) (hact : ∀ i r a u, ((kind s i r a).act u).tables = u.tables) :
    (s.take pick kind).tables = s.tables := by
  rcases s.take_tables pick kind with h | ⟨i, r, a, -, -, e⟩
  · exact h
  · rw [e]
    rcases s.carryOut_tables i r (hfirst i r a) with h | ⟨u, -, hu, h⟩
    · exact h
    · rw [h, hact, hu]

theorem controlTaking_testsFirst (s : State) (i : StreamNo) {tests : State → State × Option Wait} {act : State → State}
    (htests : ∀ u, (tests u).1.tables = u.tables) : (controlTaking s i tests act).TestsFirst :=
  ⟨fun u => u.emit_tables i, htests⟩

theorem printTaking_act_tables (s u : State) (i : StreamNo) (r : Resolved) (data : List Byte) :
    ((printTaking s i r data).act u).tables = u.tables := by
  have hstruck : (u.afterStrike i r data).tables = u.tables := by simp [State.afterStrike]
  rw [printTaking_act]
  split
  · exact (State.emit_tables _ i).trans hstruck
  · exact hstruck

/-! ### The table loads (R51, R53, R54, R80) -/

/-- The set a table load names, and what it makes of the set's tables. -/
def Body.tableLoad : Body → Option (Fin 2 × (TableSet → TableSet))
  | .xlateLoad k first entries => some (k, fun t => { t with xlate := xlateReplace t.xlate first entries })
  | .pairLoad k entries => some (k, fun t => { t with pairs := (pairLoadAll t.pairs entries).1 })
  | .pairClear k => some (k, fun t => { t with pairs := [] })
  | _ => none

/-- The granted record is a table load that has passed the fence test, and it is applied to the set it names. -/
def State.LoadsTables (s t : State) : Prop :=
  ∃ i r k f, s.grant = some (i, r) ∧ r.body.tableLoad = some (k, f) ∧ s.fenceClear i k = true ∧ t.tables = s.tables.modify k f

theorem State.fenceTest_tables (s : State) (i : StreamNo) (k : Fin 2) : (s.fenceTest i k).1.tables = s.tables := by
  unfold State.fenceTest
  split <;> rfl

theorem State.fenceTest_eq_none {s u : State} {i : StreamNo} {k : Fin 2} (h : s.fenceTest i k = (u, none)) :
    s.fenceClear i k = true := by
  unfold State.fenceTest at h
  split at h
  · assumption
  · cases h

/-- The composer command of a table load leaves the tables, or applies the granted load under the fence (R80). -/
theorem State.take_tables_loaded {α : Type} (s : State) {pick : Body → Option α} {set : α → Fin 2} {act : StreamNo → α → State → State}
    (hload : ∀ body a, pick body = some a →
      ∃ f, body.tableLoad = some (set a, f) ∧ ∀ i u, (act i a u).tables = u.tables.modify (set a) f) :
    (s.take pick fun u i _ a => controlTaking u i (fun v => v.fenceTest i (set a)) (act i a)).tables = s.tables ∨
      s.LoadsTables (s.take pick fun u i _ a => controlTaking u i (fun v => v.fenceTest i (set a)) (act i a)) := by
  rcases s.take_tables pick _ with h | ⟨i, r, a, hgrant, hpick, htake⟩
  · exact .inl h
  rw [htake]
  obtain ⟨f, hbody, hact⟩ := hload _ _ hpick
  rcases s.carryOut_tables i r (controlTaking_testsFirst s i fun u => u.fenceTest_tables i (set a)) with h | ⟨u, htest, hu, h⟩
  · exact .inl h
  · have hclear : ((s.beginGrant i).emit i).fenceClear i (set a) = true := State.fenceTest_eq_none htest
    refine .inr ⟨i, r, set a, f, hgrant, hbody, ((s.beginGrant i).fenceClear_emit i _).symm.trans hclear, ?_⟩
    rw [h, ← hu]
    exact hact i u

/-! ### Every command -/

/-- What a command can do to the tables: power-on resets them, a table load changes the set it names, and the rest leave them. -/
theorem exec_tables (c : Instr) (s : State) : ∃ t, exec c s = .next t ∧
    (t.tables = s.tables ∨ c = .powerOnReset ∧ t.tables = State.reset.tables ∨ s.LoadsTables t) := by
  have loads {t : State} (e : exec c s = .next t) (h : t.tables = s.tables ∨ s.LoadsTables t) : ∃ t, exec c s = .next t ∧
      (t.tables = s.tables ∨ c = .powerOnReset ∧ t.tables = State.reset.tables ∨ s.LoadsTables t) := ⟨t, e, h.imp_right .inr⟩
  have keeps {t : State} (e : exec c s = .next t) (h : t.tables = s.tables) := loads e (.inl h)
  cases c with
  | powerOnReset => exact ⟨_, rfl, .inr (.inl ⟨rfl, rfl⟩)⟩
  | portReset p => exact keeps rfl (s.resetPort_tables p)
  | resetRelease p | frameRise p | answerReturn p n | byteStrobe p b => exact keeps rfl rfl
  | print p => exact keeps rfl (s.endEvent_tables _ p _ _ fun h data u => printRule_tables h p u data)
  | mark p => exact keeps rfl (s.endEvent_tables _ p _ _ fun h id u => queueControl_tables h u (.mark id))
  | close p => exact keeps rfl (s.endEvent_tables _ p _ _ fun h a u => closeRule_tables h u a)
  | xlateLoad p | pairLoad p | pairClear p | geometryLoad p | streamSet p | overlayBegin p | overlayEntries p | overlayEnd p =>
    exact keeps rfl (s.endEvent_tables _ p _ _ fun h b u => queueControl_tables h u b)
  | senseDevice p | senseMark p | portSet p | formSelect p => exact keeps rfl (s.endEvent_tables _ p _ _ fun _ _ _ => rfl)
  | senseStream p => exact keeps rfl (s.endEvent_tables _ p _ _ fun _ i u => senseStreamRule_tables p i u)
  | streamOpen p => exact keeps rfl (s.endEvent_tables _ p _ _ fun h g u => streamOpenRule_tables p h.stream u g)
  | streamRelease p => exact keeps rfl (s.endEvent_tables _ p _ _ fun h _ u => streamReleaseRule_tables h.stream u)
  | cancel p => exact keeps rfl (s.endEvent_tables _ p _ _ fun h _ u => u.cancelStream_tables h.stream)
  | formLoad p => exact keeps rfl (s.endEvent_tables _ p _ _ fun _ load u => formLoadRule_tables u load.1 load.2)
  | stop p => exact keeps rfl (s.endEvent_tables _ p _ _ fun _ _ u => u.stopRequest_tables _)
  | resume p => exact keeps rfl (s.endEvent_tables _ p _ _ fun _ _ u => u.start_tables)
  | engineSet p => exact keeps rfl (s.endEvent_tables _ p _ _ fun _ g u => engineSetRule_tables u g)
  | takePrint =>
    exact keeps rfl (s.take_tables_kept _ (fun _ _ _ => ⟨fun _ => rfl, fun _ => rfl⟩) fun i r data u =>
      printTaking_act_tables s u i r data)
  | takeMark =>
    exact keeps rfl (s.take_tables_kept _ (fun _ _ _ => ⟨fun _ => rfl, fun _ => rfl⟩) fun i _ id u => by simp [markTaking])
  | takeClose =>
    exact keeps rfl (s.take_tables_kept _ (fun i _ _ => ⟨fun u => u.emit_tables i, fun _ => rfl⟩) fun i _ _ u => by simp [closeTaking])
  | takeXlateLoad =>
    exact loads rfl (s.take_tables_loaded fun body a h => by cases body <;> cases h; exact ⟨_, rfl, fun _ _ => rfl⟩)
  | takePairLoad =>
    exact loads rfl (s.take_tables_loaded fun body a h => by
      cases body <;> cases h; exact ⟨_, rfl, fun _ _ => State.countIf_tables _ _ _ _⟩)
  | takePairClear =>
    exact loads rfl (s.take_tables_loaded (set := id) fun body a h => by cases body <;> cases h; exact ⟨_, rfl, fun _ _ => rfl⟩)
  | takeGeometryLoad =>
    exact keeps rfl (s.take_tables_kept _ (fun i _ _ => controlTaking_testsFirst s i fun _ => rfl) fun _ _ _ _ => rfl)
  | takeStreamSet =>
    exact keeps rfl (s.take_tables_kept _ (fun i _ _ => controlTaking_testsFirst s i fun _ => rfl) fun _ _ _ _ => rfl)
  | takeOverlayBegin =>
    exact keeps rfl (s.take_tables_kept _ (fun i _ load => controlTaking_testsFirst s i fun u => u.beginTest_tables i load.1)
      fun i _ load u => u.beginLoad_tables i load.1 load.2)
  | takeOverlayEntries =>
    exact keeps rfl (s.take_tables_kept _ (fun i _ _ => controlTaking_testsFirst s i fun _ => rfl)
      fun i _ entries u => u.addEntries_tables i entries)
  | takeOverlayEnd =>
    exact keeps rfl (s.take_tables_kept _ (fun i _ _ => controlTaking_testsFirst s i fun _ => rfl) fun i _ _ u => u.endLoad_tables i)
  | pageAgeExpiry i => exact keeps rfl rfl
  | selection => exact keeps rfl s.select_tables
  | renderingComplete => exact keeps rfl s.renderingDone_tables
  | sheet => exact keeps rfl s.issueSheet_tables
  | sendComplete => exact keeps rfl s.sendDone_tables
  | ready => exact keeps rfl s.readyReport_tables
  | notReady => exact keeps rfl (s.lossOfReadiness_tables _ _)
  | trayEmpty n | stackerFull n => exact keeps rfl (s.numberedReport_tables n _ _)
  | stacked tag => exact keeps rfl (s.stackedReport_tables tag)
  | jam => exact keeps rfl (s.jamEvent_tables _ _)
  | restarted => exact keeps rfl (State.jamEvent_tables _ _ _)
  | unrecognisedReport code => exact keeps rfl rfl
  | stackTimeout => exact keeps rfl s.stackTimerExpires_tables
  | panelStart k => exact keeps rfl (s.panelSample_tables k _ State.start_tables)
  | panelStop k => exact keeps rfl (s.panelSample_tables k _ fun u => u.stopRequest_tables _)
  | purge k => exact keeps rfl (s.panelSample_tables k _ State.purge_tables)
  | keySample k => exact keeps rfl (s.panelSample_tables k _ fun _ => rfl)

/-! ### The pair law (R46) -/

/-- A pair table in ascending key order, within its size. -/
structure PairsLaw (pairs : List PairEntry) : Prop where
  ascending : pairs.Pairwise fun a b => a.keyBefore b = true
  size : pairs.length ≤ 128

theorem State.pairLaw_iff (s : State) : s.PairLaw ↔ ∀ k, PairsLaw (s.tables.get k).pairs :=
  forall_congr' fun _ => ⟨fun ⟨h1, h2⟩ => ⟨h1, h2⟩, fun ⟨h1, h2⟩ => ⟨h1, h2⟩⟩

/-- An entry is inserted only below the full size, unless it replaces one (R53). -/
theorem PairsLaw.loadOne {pairs : List PairEntry} (h : PairsLaw pairs) (e : PairEntry) : PairsLaw (pairLoadOne pairs e).1 := by
  unfold pairLoadOne
  split
  · next hroom =>
    refine ⟨pairInsert_pairwise h.ascending e, ?_⟩
    rw [pairInsert_length h.ascending e]
    split
    · exact h.size
    · next hkey => exact hroom.resolve_left hkey
  · exact h

theorem PairsLaw.loadAll {pairs : List PairEntry} (h : PairsLaw pairs) (entries : List PairEntry) :
    PairsLaw (pairLoadAll pairs entries).1 := by
  induction entries generalizing pairs with
  | nil => exact h
  | cons e es ih => exact ih (h.loadOne e)

/-- A table load keeps the law of the set it names. -/
theorem PairsLaw.tableLoad {t : TableSet} (h : PairsLaw t.pairs) {body : Body} {k : Fin 2} {f : TableSet → TableSet}
    (hload : body.tableLoad = some (k, f)) : PairsLaw (f t).pairs := by
  cases body with
  | xlateLoad set first entries => cases hload; exact h
  | pairLoad set entries => cases hload; exact h.loadAll entries
  | pairClear set => cases hload; exact ⟨.nil, Nat.zero_le _⟩
  | _ => cases hload

/-- The law speaks of the tables alone. -/
theorem State.pairLaw_congr {s t : State} (h : t.tables = s.tables) (hs : s.PairLaw) : t.PairLaw := fun k => by
  rw [h]
  exact hs k

theorem State.LoadsTables.pairLaw {s t : State} (h : s.LoadsTables t) (hs : s.PairLaw) : t.PairLaw := by
  obtain ⟨i, r, k, f, -, hload, -, htables⟩ := h
  rw [State.pairLaw_iff] at hs ⊢
  intro l
  rw [htables, Bank.get_modify]
  split
  · exact (hs l).tableLoad hload
  · exact hs l

/-- Settles O52: a command on the rest of the queue keeps the law, and so does the grant made on an empty queue. -/
theorem everyStepKeepsThePairLaw : Obligations.EveryStepKeepsThePairLaw := by
  unfold Obligations.EveryStepKeepsThePairLaw
  intro s t hs h
  unfold step at h
  split at h
  · cases h
    exact State.pairLaw_congr s.makeGrant_tables hs
  · next c rest _ =>
    obtain ⟨u, hu, htables⟩ := exec_tables c { s with pending := rest }
    obtain rfl : u = t := Host.Outcome.next.inj (hu.symm.trans h)
    rcases htables with hkept | ⟨-, hreset⟩ | hload
    · exact State.pairLaw_congr (s := { s with pending := rest }) hkept hs
    · obtain ⟨-, hlaw, -⟩ := resetMeetsTheLaws
      exact State.pairLaw_congr hreset hlaw
    · exact hload.pairLaw (s := { s with pending := rest }) hs

end Sys2Proof.Machine
end

section
/-! The table fence holds (R80): a command that changes a table set is the taking of a load that has passed the fence test. -/

namespace Sys2Proof.Machine

/-- A load that has passed the fence test changes the set it names, on which no other stream has an open buffer (R80). -/
theorem State.LoadsTables.changed {s t : State} (h : s.LoadsTables t) {k : Fin 2} (hk : t.tables.get k ≠ s.tables.get k) :
    ∃ i r, s.grant = some (i, r) ∧ s.fenceClear i k = true := by
  obtain ⟨i, r, set, f, hgrant, -, hclear, htables⟩ := h
  rw [htables, Bank.get_modify] at hk
  by_cases hset : set = k
  · exact ⟨i, r, hgrant, hset ▸ hclear⟩
  · exact absurd (if_neg hset) hk

/-- Settles O59. -/
theorem tablesChangeOnlyUnderTheFence : Obligations.TablesChangeOnlyUnderTheFence := by
  unfold Obligations.TablesChangeOnlyUnderTheFence
  intro c s t k hc ht hk
  obtain ⟨u, hu, htables⟩ := exec_tables c s
  obtain rfl : u = t := Host.Outcome.next.inj (hu.symm.trans ht)
  rcases htables with hkept | ⟨hpower, -⟩ | hload
  · exact absurd (congrArg (Bank.get · k) hkept) hk
  · exact absurd hpower hc
  · obtain ⟨i, r, hgrant, hclear⟩ := hload.changed hk
    exact ⟨i, r, hgrant, (s.fenceClear_iff_buffer i k).1 hclear⟩

end Sys2Proof.Machine
end

section
/-! The cell law (R65, R69): the ink of the part is that of the cells of its open buffers and of its stored lines. Emission moves ink, a
strike alone makes it, and every other operation leaves no ink that was not there. -/

namespace Sys2Proof.Machine

/-! ### The lines of the Page Store -/

/-- A page in the store holds the line. -/
def State.HoldsLine (s : State) (l : ComposedLine) : Prop := ∃ p ∈ s.pages, l ∈ p.lines

theorem PagesOf.exists_lines {qs ps : List Page} (h : PagesOf Page.Remnant qs ps) : ∀ q ∈ qs, ∃ p ∈ ps, q.lines = p.lines := by
  induction h with
  | nil => exact nofun
  | cons hq _ ih =>
    rw [List.forall_mem_cons]
    exact ⟨⟨_, List.mem_cons_self, hq.lines⟩, fun x hx => (ih x hx).imp fun _ h => ⟨List.mem_cons_of_mem _ h.1, h.2⟩⟩
  | cons_right _ ih => exact fun x hx => (ih x hx).imp fun _ h => ⟨List.mem_cons_of_mem _ h.1, h.2⟩

theorem State.Remnant.holdsLine {t s : State} (h : t.Remnant s) {l : ComposedLine} (hl : t.HoldsLine l) : s.HoldsLine l := by
  obtain ⟨q, hq, hlq⟩ := hl
  obtain ⟨p, hp, e⟩ := h.pages.exists_lines q hq
  exact ⟨p, hp, e ▸ hlq⟩

theorem State.holdsLine_updStream {s : State} {i : StreamNo} {f : Stream → Stream} {l : ComposedLine}
    (h : (s.updStream i f).HoldsLine l) : s.HoldsLine l := h

/-- A page is opened without lines (R92, R96). -/
theorem State.holdsLine_makePage {s : State} {i : StreamNo} {ln l : ComposedLine} {n : Word16} {b : Bool}
    (h : (s.makePage i ln n b).HoldsLine l) : s.HoldsLine l := by
  obtain ⟨p, hp, hl⟩ := h
  rw [State.makePage_pages] at hp
  rcases List.mem_append.1 hp with hp | hp
  · exact ⟨p, hp, hl⟩
  · rw [List.mem_singleton.1 hp] at hl
    cases hl

theorem State.holdsLine_makeBlanks {s : State} {i : StreamNo} {ln l : ComposedLine} {n : Nat}
    (h : (s.makeBlanks i ln n).HoldsLine l) : s.HoldsLine l := by
  induction n generalizing s with
  | zero => exact h
  | succ n ih => exact State.holdsLine_makePage (ih h)

theorem State.holdsLine_appendLine {s : State} {i : StreamNo} {ln l : ComposedLine} (h : (s.appendLine i ln).HoldsLine l) :
    l = ln ∨ s.HoldsLine l := by
  unfold State.appendLine at h
  split at h
  · exact .inr h
  · obtain ⟨q, hq, hl⟩ := h
    obtain ⟨p, hp, rfl⟩ := List.mem_map.1 hq
    split at hl
    · rcases List.mem_append.1 hl with hl | hl
      · exact .inr ⟨p, hp, hl⟩
      · exact .inl (List.mem_singleton.1 hl)
    · exact .inr ⟨p, hp, hl⟩

theorem State.holdsLine_openWith {s : State} {i : StreamNo} {ln l : ComposedLine} (h : (s.openWith i ln).HoldsLine l) :
    l = ln ∨ s.HoldsLine l :=
  (State.holdsLine_appendLine h).imp_right fun hopened =>
    State.holdsLine_updStream <| State.holdsLine_makeBlanks <| State.holdsLine_makePage <| State.holdsLine_updStream hopened

/-- The arrival of a line adds that line to the store and no other (R91). -/
theorem State.holdsLine_receiveLine {s : State} {i : StreamNo} {ln l : ComposedLine} (h : (s.receiveLine i ln).HoldsLine l) :
    l = ln ∨ s.HoldsLine l := by
  unfold State.receiveLine at h
  dsimp only at h
  split at h
  · exact State.holdsLine_openWith h
  · split at h
    · exact State.holdsLine_appendLine h
    · exact (State.holdsLine_openWith h).imp_right (s.remnant_closePage i).holdsLine

/-- So does the emission of a buffer, with the buffer's line (R71). -/
theorem State.holdsLine_emit {s : State} {i : StreamNo} {l : ComposedLine} (h : (s.emit i).HoldsLine l) :
    l ∈ s.bufferLine i ∨ s.HoldsLine l := by
  unfold State.emit at h
  split at h
  · exact .inr h
  · next b hb =>
    rw [State.bufferLine_of_some hb]
    cases hln : b.composed with
    | none => rw [hln] at h; exact .inr h
    | some ln =>
      rw [hln] at h
      exact (State.holdsLine_receiveLine h).imp_left fun e => by simp [e]

/-! ### Ink -/

/-- Some cell of an open buffer, or of a line in the store, has this base, over glyph and weight. -/
def State.HoldsInk (s : State) (base overGlyph : Option Glyph) (weight : Nat) : Prop :=
  (∃ i, ∃ b ∈ (s.stream i).buffer, ∃ c ∈ b.cells.items, c.base = base ∧ c.overGlyph = overGlyph ∧ c.weight = weight) ∨
  ∃ l, s.HoldsLine l ∧ ∃ c ∈ l.cells, c.base = base ∧ c.overGlyph = overGlyph ∧ c.weight = weight

/-- The cell law says that all ink is sound. -/
theorem State.cellLaw_iff (s : State) : s.CellLaw ↔ ∀ b o w, s.HoldsInk b o w → soundInk b o w := by
  constructor
  · rintro ⟨hbuffers, hlines⟩ b o w (⟨i, a, ha, c, hc, rfl, rfl, rfl⟩ | ⟨l, ⟨p, hp, hl⟩, c, hc, rfl, rfl, rfl⟩)
    · exact hbuffers i a ha c hc
    · exact hlines p hp l hl c hc
  · intro h
    exact ⟨fun i a ha c hc => h _ _ _ (.inl ⟨i, a, ha, c, hc, rfl, rfl, rfl⟩),
      fun p hp l hl c hc => h _ _ _ (.inr ⟨l, ⟨p, hp, hl⟩, c, hc, rfl, rfl, rfl⟩)⟩

/-- All ink in `t` was in `s`. -/
def State.InkFrom (t s : State) : Prop := ∀ b o w, t.HoldsInk b o w → s.HoldsInk b o w

theorem State.InkFrom.rfl {s : State} : s.InkFrom s := fun _ _ _ => id

theorem State.InkFrom.trans {t u v : State} (h : t.InkFrom u) (k : u.InkFrom v) : t.InkFrom v := fun b o w => k b o w ∘ h b o w

theorem State.InkFrom.cellLaw {t s : State} (h : t.InkFrom s) (hs : s.CellLaw) : t.CellLaw := by
  rw [State.cellLaw_iff] at hs ⊢
  exact fun b o w => hs b o w ∘ h b o w

/-- Buffers among those there were, and lines among those there were. -/
theorem State.InkFrom.of_mem {t s : State} (hbuffer : ∀ i, ∀ b ∈ (t.stream i).buffer, b ∈ (s.stream i).buffer)
    (hline : ∀ l, t.HoldsLine l → s.HoldsLine l) : t.InkFrom s := fun _ _ _ h =>
  h.imp (fun ⟨i, b, hb, hc⟩ => ⟨i, b, hbuffer i b hb, hc⟩) fun ⟨l, hl, hc⟩ => ⟨l, hline l hl, hc⟩

/-- What is left of the work has no new ink. -/
theorem State.Remnant.inkFrom {t s : State} (h : t.Remnant s) : t.InkFrom s := .of_mem h.buffer fun _ => h.holdsLine

/-- The cells of a composed line are those of the buffer it was composed from (R71). -/
theorem exists_cell_of_mem_lineCells {cells : Bank Cell 160} {c : LineCell} (h : c ∈ lineCells cells) :
    ∃ d ∈ cells.items, d.base = c.base ∧ d.overGlyph = c.overGlyph ∧ d.weight = c.weight := by
  obtain ⟨d, hd, rfl⟩ := List.mem_map.1 h
  exact ⟨d, List.mem_reverse.1 ((List.dropWhile_sublist _).subset (List.mem_reverse.1 hd)), rfl, rfl, rfl⟩

theorem Assembly.composed_cells {b : Assembly} {ln : ComposedLine} (h : b.composed = some ln) : ln.cells = lineCells b.cells := by
  unfold Assembly.composed at h
  split at h
  · cases h
  · cases h
    rfl

/-- An emission moves the ink of the buffer to a line (R71). -/
theorem State.inkFrom_emit (s : State) (i : StreamNo) : (s.emit i).InkFrom s := by
  rintro base overGlyph weight (⟨j, b, hb, hc⟩ | ⟨l, hl, c, hc, hink⟩)
  · by_cases hj : j = i
    · rw [hj, State.buffer_emit] at hb
      cases hb
    · exact .inl ⟨j, b, s.buffer_emit_ne hj ▸ hb, hc⟩
  · rcases State.holdsLine_emit hl with hl | hl
    · cases hb : (s.stream i).buffer with
      | none => rw [State.bufferLine, hb] at hl; cases hl
      | some b =>
        rw [State.bufferLine_of_some hb, Option.mem_toList] at hl
        rw [Assembly.composed_cells hl] at hc
        obtain ⟨d, hd, e1, e2, e3⟩ := exists_cell_of_mem_lineCells hc
        rw [← e1, ← e2, ← e3] at hink
        exact .inl ⟨i, b, hb, d, hd, hink⟩
    · exact .inr ⟨l, hl, c, hc, hink⟩

/-! ### Strikes -/

/-- A merge keeps a cell sound (R65, R69): an over glyph is set only beside a base, and the weight stops at 3. -/
theorem Cell.merge_soundInk {c : Cell} (h : soundInk c.base c.overGlyph c.weight) (pairs : List PairEntry) (x : XlateEntry) :
    soundInk (c.merge pairs x).cell.base (c.merge pairs x).cell.overGlyph (c.merge pairs x).cell.weight := by
  cases x with
  | space => exact h
  | underscore => exact h
  | void => exact h
  | glyph g m =>
    rw [Cell.merge]
    by_cases hnone : c.base = none
    · rw [Cell.mergeGlyph_of_empty hnone]
      exact ⟨nofun, fun _ => ⟨le_rfl, Nat.le_add_left 1 2⟩⟩
    · have hweight := h.2 hnone
      by_cases hbase : c.base = some g
      · rw [Cell.mergeGlyph_of_base hbase]
        exact ⟨h.1, fun _ => ⟨by dsimp only; omega, by dsimp only; omega⟩⟩
      · rw [Cell.mergeGlyph_of_other hnone hbase]
        split
        · exact h
        · split
          · exact ⟨nofun, fun _ => hweight⟩
          · exact ⟨nofun, fun _ => hweight⟩
          · split
            · exact ⟨fun e => absurd e hnone, fun _ => hweight⟩
            · exact h

/-- A strike keeps the cells sound (R66). -/
theorem strikeFrom_soundInk (t : TableSet) {place : Nat} {cells : Bank Cell 160} (data : List Byte)
    (h : ∀ c ∈ cells.items, soundInk c.base c.overGlyph c.weight) :
    ∀ c ∈ (strikeFrom t place cells data).cells.items, soundInk c.base c.overGlyph c.weight := by
  intro c hc
  obtain ⟨j, rfl⟩ := Bank.exists_get_of_mem _ hc
  have hj := h _ (cells.get_mem j)
  rw [strikeFrom_get]
  split
  · split
    · exact Cell.merge_soundInk hj _ _
    · exact hj
  · exact hj

/-- The buffer a PRINT record merges into is sound: an OPEN one, or one with empty cells (R64, R66). -/
theorem State.bufferFor_soundInk {s : State} (hs : s.CellLaw) (i : StreamNo) (r : Resolved) :
    ∀ c ∈ ((s.stream i).bufferFor r).cells.items, soundInk c.base c.overGlyph c.weight := by
  unfold Stream.bufferFor
  split
  · next b hb => exact hs.1 i b hb
  · intro c hc
    rw [List.eq_of_mem_replicate hc]
    exact ⟨fun _ => rfl, fun h => absurd rfl h⟩

/-- The cell law with a buffer of sound cells in a stream. -/
theorem State.mergeBuffer_cellLaw {s : State} (hs : s.CellLaw) (i : StreamNo) {b : Assembly}
    (hb : ∀ c ∈ b.cells.items, soundInk c.base c.overGlyph c.weight) : (s.updStream i fun t => { t with buffer := some b }).CellLaw := by
  refine ⟨fun j => ?_, hs.2⟩
  rw [State.stream_updStream]
  split
  · rintro _ ⟨⟩
    exact hb
  · exact hs.1 j

theorem State.afterStrike_cellLaw {s : State} (hs : s.CellLaw) (i : StreamNo) (r : Resolved) (data : List Byte) :
    (s.afterStrike i r data).CellLaw := by
  have hdone : (s.completeLoad i).CellLaw := (s.remnant_completeLoad i).inkFrom.cellLaw hs
  exact ((State.remnant_countIf _ _ _ _).trans (State.remnant_countIf _ _ _ _)).inkFrom.cellLaw
    (State.mergeBuffer_cellLaw hdone i (strikeFrom_soundInk _ data (State.bufferFor_soundInk hdone i r)))

/-! ### The takings (R63) -/

/-- The steps a kind of record puts into R63 keep the cell law. -/
structure Taking.KeepsCells (k : Taking) : Prop where
  before : ∀ u, u.CellLaw → (k.before u).CellLaw
  tests : ∀ u, u.CellLaw → (k.tests u).1.CellLaw
  act : ∀ u, u.CellLaw → (k.act u).CellLaw

theorem State.finishTaking_cellLaw {s : State} (hs : s.CellLaw) (i : StreamNo) (r : Resolved) : (s.finishTaking i r).CellLaw := by
  have hsynced : ((s.dropHead i).actSync i r.sync).InkFrom s := by
    unfold State.actSync
    split
    · exact (State.remnant_syncPages _ i).inkFrom.trans <| (State.inkFrom_emit _ i).trans (s.remnant_dropHead i).inkFrom
    · exact (s.remnant_dropHead i).inkFrom
  have hended := (State.remnant_testStopped _).trans <| (State.remnant_actHalt
    { (s.dropHead i).actSync i r.sync with taking := none } r.halt).trans (.of_frame rfl)
  exact (hended.inkFrom.trans hsynced).cellLaw hs

theorem State.carryOut_cellLaw {s : State} (hs : s.CellLaw) (i : StreamNo) (r : Resolved) {k : Taking} (hk : k.KeepsCells) :
    (s.carryOut i r k).CellLaw := by
  have hgranted : (s.beginGrant i).CellLaw := hs
  have htested := hk.tests _ (hk.before _ hgranted)
  unfold State.carryOut
  dsimp only
  split
  · split
    · exact (State.remnant_endWaiting _ i _).inkFrom.cellLaw htested
    · exact State.finishTaking_cellLaw (hk.act _ htested) i r
  · exact (State.remnant_endWaiting _ i _).inkFrom.cellLaw hgranted

theorem State.take_cellLaw {s : State} (hs : s.CellLaw) {α : Type} (pick : Body → Option α)
    {kind : State → StreamNo → Resolved → α → Taking} (hk : ∀ i r a, (kind s i r a).KeepsCells) : (s.take pick kind).CellLaw := by
  unfold State.take
  split
  · split
    · exact hs
    · exact State.carryOut_cellLaw hs _ _ (hk _ _ _)
  · split
    · split
      · exact s.remnant_endGrant.inkFrom.cellLaw hs
      · exact hs
    · exact hs

theorem controlTaking_keepsCells (s : State) (i : StreamNo) {tests : State → State × Option Wait} {act : State → State}
    (htests : ∀ u, (tests u).1.Remnant u) (hact : ∀ u, (act u).Remnant u) : (controlTaking s i tests act).KeepsCells where
  before u := (u.inkFrom_emit i).cellLaw
  tests u := (htests u).inkFrom.cellLaw
  act u := (hact u).inkFrom.cellLaw

theorem printTaking_keepsCells (s : State) (i : StreamNo) (r : Resolved) (data : List Byte) :
    (printTaking s i r data).KeepsCells where
  before _ := id
  tests _ := id
  act u hu := by
    rw [printTaking_act]
    split
    · exact (State.inkFrom_emit _ i).cellLaw (State.afterStrike_cellLaw hu i r data)
    · exact State.afterStrike_cellLaw hu i r data

theorem markTaking_keepsCells (s : State) (i : StreamNo) (r : Resolved) (id : Word16) : (markTaking s i r id).KeepsCells where
  before _ h := h
  tests _ h := h
  act u := ((State.remnant_attachMark _ i id).trans (u.remnant_completeLoad i)).inkFrom.cellLaw

theorem closeTaking_keepsCells (s : State) (i : StreamNo) : (closeTaking s i).KeepsCells where
  before u := (u.inkFrom_emit i).cellLaw
  tests _ h := h
  act u := ((State.remnant_closePage _ i).trans (u.remnant_completeLoad i)).inkFrom.cellLaw

/-! ### Records at the gate -/

/-- An update of one stream that leaves its buffer. -/
theorem State.inkFrom_updStream {s : State} {i : StreamNo} {f : Stream → Stream}
    (hf : (f (s.stream i)).buffer = (s.stream i).buffer) : (s.updStream i f).InkFrom s :=
  .of_mem (fun j _ hb => State.buffer_updStream_kept (j := j) hf ▸ hb) fun _ => id

/-- An end event gains no ink where the rule of its row gains none (R4). -/
theorem State.endEvent_inkFrom {α : Type} (s : State) (row : Row) (p : Port) (operands : Header → Except Reason α)
    (rule : Header → α → State → Ruling) (hrule : ∀ h a u v o f, rule h a u = .taken v o f → v.InkFrom u) :
    (s.endEvent row p operands rule).InkFrom s := by
  have hlow : (s.lowerFrame p).Remnant s := s.remnant_updPort p _
  have hrefuse : ∀ r, ((s.lowerFrame p).refuse p (s.port p).bytes r).InkFrom s := fun r =>
    ((State.remnant_refuse _ p _ r).trans hlow).inkFrom
  rcases s.endEvent_cases row p operands rule with e | e | ⟨r, -, e⟩ | ⟨h, -, ⟨r, e⟩ | e | ⟨a, u, o, f, ht, e⟩⟩
  · rw [e]
    exact .rfl
  · exact e ▸ hlow.inkFrom
  · exact e ▸ hrefuse r
  · exact e ▸ hrefuse r
  · exact e ▸ ((State.remnant_answer _ p _ _ _).trans hlow).inkFrom
  · exact e ▸ (State.remnant_answer _ p _ _ _).inkFrom.trans ((State.inkFrom_updStream rfl).trans
      ((hrule h a _ u o f ht.ruled).trans hlow.inkFrom))

theorem queueControl_inkFrom {h : Header} {b : Body} {u v : State} {o : Bool} {f : List Byte}
    (e : queueControl h b u = .taken v o f) : v.InkFrom u := by
  unfold queueControl at e
  split at e
  · cases e
  · cases e
    exact State.inkFrom_updStream rfl

theorem closeRule_inkFrom {h : Header} {a : Unit} {u v : State} {o : Bool} {f : List Byte}
    (e : closeRule h a u = .taken v o f) : v.InkFrom u := by
  unfold closeRule at e
  split at e
  · cases e
  · cases e
    exact State.InkFrom.trans (State.inkFrom_updStream rfl) (State.inkFrom_updStream rfl)

theorem printRule_inkFrom {p : Port} {h : Header} {data : List Byte} {u v : State} {o : Bool} {f : List Byte}
    (e : printRule p h data u = .taken v o f) : v.InkFrom u := by
  unfold printRule at e
  split at e
  · cases e
  · cases e
    exact ((State.remnant_countIf _ _ _ _).trans (State.remnant_countIf _ _ _ _)).inkFrom.trans
      (State.InkFrom.trans (State.inkFrom_updStream rfl) (State.inkFrom_updStream rfl))

theorem formLoadRule_inkFrom {k : Fin 4} {form : Form} {u v : State} {o : Bool} {f : List Byte}
    (e : formLoadRule k form u = .taken v o f) : v.InkFrom u := by
  unfold formLoadRule at e
  split at e
  · cases e
  · cases e
    exact .of_mem (fun _ _ => id) fun _ => id

/-! ### Every command, every step -/

theorem exec_cellLaw (c : Instr) (s : State) (hs : s.CellLaw) : ∃ t, exec c s = .next t ∧ t.CellLaw := by
  have keeps {t : State} (e : exec c s = .next t) (h : t.CellLaw) : ∃ t, exec c s = .next t ∧ t.CellLaw := ⟨t, e, h⟩
  have ink {t : State} (e : exec c s = .next t) (h : t.InkFrom s) : ∃ t, exec c s = .next t ∧ t.CellLaw := keeps e (h.cellLaw hs)
  have remnant {t : State} (e : exec c s = .next t) (h : t.Remnant s) : ∃ t, exec c s = .next t ∧ t.CellLaw := ink e h.inkFrom
  cases c with
  | powerOnReset =>
    obtain ⟨-, -, hreset, -⟩ := resetMeetsTheLaws
    exact keeps rfl hreset
  | portReset p => exact remnant rfl (s.remnant_resetPort p)
  | resetRelease p | frameRise p | answerReturn p n | byteStrobe p b => exact remnant rfl (s.remnant_updPort p _)
  | print p => exact ink rfl (s.endEvent_inkFrom _ p _ _ fun _ _ _ _ _ _ => printRule_inkFrom)
  | mark p => exact ink rfl (s.endEvent_inkFrom _ p _ _ fun h id _ _ _ _ => queueControl_inkFrom (h := h) (b := .mark id))
  | close p => exact ink rfl (s.endEvent_inkFrom _ p _ _ fun _ _ _ _ _ _ => closeRule_inkFrom)
  | xlateLoad p | pairLoad p | pairClear p | geometryLoad p | streamSet p | overlayBegin p | overlayEntries p | overlayEnd p =>
    exact ink rfl (s.endEvent_inkFrom _ p _ _ fun _ _ _ _ _ _ => queueControl_inkFrom)
  | senseDevice p | senseMark p | portSet p =>
    exact ink rfl (s.endEvent_inkFrom _ p _ _ fun _ _ u _ _ _ e => by cases e; exact (u.remnant_updPort p _).inkFrom)
  | senseStream p => exact ink rfl (s.endEvent_inkFrom _ p _ _ fun _ _ _ _ _ _ e => (senseStreamRule_remnant e).inkFrom)
  | streamOpen p => exact ink rfl (s.endEvent_inkFrom _ p _ _ fun _ _ _ _ _ _ e => (streamOpenRule_remnant e).inkFrom)
  | streamRelease p => exact ink rfl (s.endEvent_inkFrom _ p _ _ fun _ _ _ _ _ _ e => (streamReleaseRule_remnant e).inkFrom)
  | cancel p =>
    exact ink rfl (s.endEvent_inkFrom _ p _ _ fun h _ u _ _ _ e => by cases e; exact (u.remnant_cancelStream h.stream).inkFrom)
  | formLoad p => exact ink rfl (s.endEvent_inkFrom _ p _ _ fun _ _ _ _ _ _ => formLoadRule_inkFrom)
  | formSelect p => exact ink rfl (s.endEvent_inkFrom _ p _ _ fun _ _ _ _ _ _ e => by cases e; exact State.inkFrom_updStream rfl)
  | stop p => exact ink rfl (s.endEvent_inkFrom _ p _ _ fun _ _ u _ _ _ e => by cases e; exact (u.remnant_stopRequest _).inkFrom)
  | resume p => exact ink rfl (s.endEvent_inkFrom _ p _ _ fun _ _ u _ _ _ e => by cases e; exact u.remnant_start.inkFrom)
  | engineSet p => exact ink rfl (s.endEvent_inkFrom _ p _ _ fun _ _ _ _ _ _ e => (engineSetRule_remnant e).inkFrom)
  | takePrint => exact keeps rfl (State.take_cellLaw hs _ fun i r data => printTaking_keepsCells s i r data)
  | takeMark => exact keeps rfl (State.take_cellLaw hs _ fun i r id => markTaking_keepsCells s i r id)
  | takeClose => exact keeps rfl (State.take_cellLaw hs _ fun i _ _ => closeTaking_keepsCells s i)
  | takeXlateLoad =>
    exact keeps rfl (State.take_cellLaw hs _ fun i _ load =>
      controlTaking_keepsCells s i (fun v => v.remnant_fenceTest i load.1) fun v => v.remnant_loadTable i _ _)
  | takePairLoad =>
    exact keeps rfl (State.take_cellLaw hs _ fun i _ load =>
      controlTaking_keepsCells s i (fun v => v.remnant_fenceTest i load.1) fun v => v.remnant_applyPairs i _ _)
  | takePairClear =>
    exact keeps rfl (State.take_cellLaw hs _ fun i _ k =>
      controlTaking_keepsCells s i (fun v => v.remnant_fenceTest i k) fun v => v.remnant_loadTable i _ _)
  | takeGeometryLoad =>
    exact keeps rfl (State.take_cellLaw hs _ fun i _ _ => controlTaking_keepsCells s i (fun _ => .rfl) fun _ => .of_frame rfl)
  | takeStreamSet =>
    exact keeps rfl (State.take_cellLaw hs _ fun i _ _ =>
      controlTaking_keepsCells s i (fun _ => .rfl) fun _ => State.remnant_updStream_kept rfl rfl)
  | takeOverlayBegin =>
    exact keeps rfl (State.take_cellLaw hs _ fun i _ load =>
      controlTaking_keepsCells s i (fun v => v.remnant_beginTest i load.1) fun v => v.remnant_beginLoad i _ _)
  | takeOverlayEntries =>
    exact keeps rfl (State.take_cellLaw hs _ fun i _ _ =>
      controlTaking_keepsCells s i (fun _ => .rfl) fun v => v.remnant_addEntries i _)
  | takeOverlayEnd =>
    exact keeps rfl (State.take_cellLaw hs _ fun i _ _ => controlTaking_keepsCells s i (fun _ => .rfl) fun v => v.remnant_endLoad i)
  | pageAgeExpiry i => exact remnant rfl (State.remnant_updStream_kept rfl rfl)
  | selection => exact remnant rfl s.remnant_select
  | renderingComplete => exact remnant rfl s.remnant_renderingDone
  | sheet => exact remnant rfl s.remnant_issueSheet
  | sendComplete => exact remnant rfl s.remnant_sendDone
  | ready => exact remnant rfl s.remnant_readyReport
  | notReady => exact remnant rfl (s.remnant_lossOfReadiness _ _)
  | trayEmpty n | stackerFull n => exact remnant rfl (s.remnant_numberedReport n _ _)
  | stacked tag => exact remnant rfl (s.remnant_stackedReport tag)
  | jam => exact remnant rfl (s.remnant_jamEvent _ _)
  | restarted => exact remnant rfl ((State.remnant_jamEvent _ _ _).trans (.of_frame rfl))
  | unrecognisedReport code => exact keeps rfl hs
  | stackTimeout => exact remnant rfl s.remnant_stackTimerExpires
  | panelStart k => exact remnant rfl (s.remnant_panelSample k _ State.remnant_start)
  | panelStop k => exact remnant rfl (s.remnant_panelSample k _ fun u => u.remnant_stopRequest _)
  | purge k => exact remnant rfl (s.remnant_panelSample k _ State.remnant_purge)
  | keySample k => exact remnant rfl (s.remnant_panelSample k _ fun _ => .rfl)

/-- Settles O53: a command on the rest of the queue keeps the law, and so does the grant made on an empty queue. -/
theorem everyStepKeepsTheCellLaw : Obligations.EveryStepKeepsTheCellLaw := by
  unfold Obligations.EveryStepKeepsTheCellLaw
  intro s t hs h
  unfold step at h
  split at h
  · cases h
    exact s.remnant_makeGrant.inkFrom.cellLaw hs
  · next c rest _ =>
    obtain ⟨u, hu, hlaw⟩ := exec_cellLaw c { s with pending := rest } hs
    rw [hu] at h
    cases h
    exact hlaw

end Sys2Proof.Machine
end

section
/-! The rest law (R59, R76, R186): the end of a taking tests STOPPING with no taking under way, and between its grant and its end nothing
but a cancellation takes a record from the stream it serves. -/

namespace Sys2Proof.Machine

/-! ### The law in its parts -/

/-- A bound stream with a record at the head of its queue. -/
structure Stream.Serves (t : Stream) : Prop where
  bound : t.binding ≠ none
  head : t.queue ≠ []

/-- The rest law but for its part on STOPPING, which is what the test of R186 makes sure of. -/
structure State.GrantLaw (s : State) : Prop where
  stopped : s.run = .stopped → s.taking = none
  serves : ∀ i, s.taking = some (.granted i) → (s.stream i).Serves

theorem State.restLaw_iff (s : State) : s.RestLaw ↔ s.GrantLaw ∧ (s.run = .stopping → 1 ≤ s.outstanding ∨ s.taking ≠ none) :=
  ⟨fun ⟨h1, h2, h3⟩ => ⟨⟨h1, fun i hi => ⟨(h3 i hi).1, (h3 i hi).2⟩⟩, h2⟩,
    fun ⟨⟨h1, h3⟩, h2⟩ => ⟨h1, h2, fun i hi => ⟨(h3 i hi).bound, (h3 i hi).head⟩⟩⟩

theorem State.RestLaw.grantLaw {s : State} (hs : s.RestLaw) : s.GrantLaw := (s.restLaw_iff.1 hs).1

/-- Outside STOPPING the test of R186 has nothing to do. -/
theorem State.GrantLaw.restLaw {s : State} (hs : s.GrantLaw) (hrun : s.run ≠ .stopping) : s.RestLaw :=
  s.restLaw_iff.2 ⟨hs, fun h => absurd h hrun⟩

theorem State.grantLaw_of_idle {s : State} (h : s.taking = none) : s.GrantLaw :=
  ⟨fun _ => h, fun i hi => by rw [h] at hi; cases hi⟩

/-- The run state and the taking as they were, the outstanding count too, and the streams that serve still serving. -/
structure State.KeepsRest (t s : State) : Prop where
  run : t.run = s.run
  taking : t.taking = s.taking
  outstanding : t.outstanding = s.outstanding
  serves : ∀ i, (s.stream i).Serves → (t.stream i).Serves

theorem State.KeepsRest.rfl {s : State} : s.KeepsRest s := ⟨.refl _, .refl _, .refl _, fun _ => id⟩

theorem State.KeepsRest.trans {t u v : State} (h : t.KeepsRest u) (k : u.KeepsRest v) : t.KeepsRest v :=
  ⟨h.run.trans k.run, h.taking.trans k.taking, h.outstanding.trans k.outstanding, fun i => h.serves i ∘ k.serves i⟩

theorem State.KeepsRest.grantLaw {t s : State} (h : t.KeepsRest s) (hs : s.GrantLaw) : t.GrantLaw where
  stopped hrun := h.taking.trans (hs.stopped (h.run ▸ hrun))
  serves i hi := h.serves i (hs.serves i (h.taking ▸ hi))

theorem State.KeepsRest.restLaw {t s : State} (h : t.KeepsRest s) (hs : s.RestLaw) : t.RestLaw := by
  rw [State.restLaw_iff] at hs ⊢
  refine ⟨h.grantLaw hs.1, fun hrun => ?_⟩
  rw [h.outstanding, h.taking]
  exact hs.2 (h.run ▸ hrun)

/-- A change elsewhere than in the streams, the taking, the counters of the tags and the run state. -/
theorem State.KeepsRest.of_frame {t s : State}
    (h : t = { t with streams := s.streams, taking := s.taking, issue := s.issue, confirm := s.confirm, run := s.run }) :
    t.KeepsRest s := by
  rw [h]
  exact ⟨.refl _, .refl _, .refl _, fun _ => id⟩

/-- A change of the streams that leaves their bindings and queues, with none in the taking, the tags' counters and the run state. -/
theorem State.KeepsRest.of_kept {t s : State}
    (h : t = { t with taking := s.taking, issue := s.issue, confirm := s.confirm, run := s.run })
    (hbinding : ∀ i, (t.stream i).binding = (s.stream i).binding) (hqueue : ∀ i, (t.stream i).queue = (s.stream i).queue) :
    t.KeepsRest s where
  run := by rw [h]
  taking := by rw [h]
  outstanding := by rw [h]; exact .refl _
  serves i hi := ⟨hbinding i ▸ hi.bound, hqueue i ▸ hi.head⟩

theorem State.keepsRest_updStream {s : State} {i : StreamNo} {f : Stream → Stream}
    (hf : (s.stream i).Serves → (f (s.stream i)).Serves) : (s.updStream i f).KeepsRest s where
  run := rfl
  taking := rfl
  outstanding := rfl
  serves j := by
    rw [State.stream_updStream]
    split
    · next e => exact e ▸ hf
    · exact id

/-- An update of one stream that leaves its binding and its queue. -/
theorem State.keepsRest_updStream_kept {s : State} {i : StreamNo} {f : Stream → Stream}
    (hb : (f (s.stream i)).binding = (s.stream i).binding) (hq : (f (s.stream i)).queue = (s.stream i).queue) :
    (s.updStream i f).KeepsRest s :=
  State.keepsRest_updStream fun h => ⟨hb ▸ h.bound, hq ▸ h.head⟩

theorem State.keepsRest_updPort (s : State) (p : Port) (f : PortState → PortState) : (s.updPort p f).KeepsRest s := .of_frame rfl

theorem State.keepsRest_countIf (s : State) (b : Bool) (i : StreamNo) (k : Cond) : (s.countIf b i k).KeepsRest s :=
  .of_kept (by rw [State.countIf_frame]) (fun j => by rw [State.stream_countIf]) fun j => by rw [State.stream_countIf]

theorem State.keepsRest_countCond (s : State) (i : StreamNo) (k : Cond) : (s.countCond i k).KeepsRest s := s.keepsRest_countIf true i k

theorem State.keepsRest_deviceCond (s : State) (d : DevCond) : (s.deviceCond d).KeepsRest s :=
  .of_frame (by rw [State.deviceCond_eq])

/-! ### The run state (R164, R185 to R187) -/

theorem State.atRest_iff (s : State) : s.atRest = true ↔ s.outstanding = 0 ∧ s.taking = none := by
  simp [State.atRest]

theorem State.not_atRest_iff (s : State) : ¬ s.atRest = true ↔ 1 ≤ s.outstanding ∨ s.taking ≠ none := by
  rw [State.atRest_iff, Classical.not_and_iff_not_or_not, ← ne_eq, Nat.one_le_iff_ne_zero]

theorem State.enterStopped_restLaw {s : State} (h : s.taking = none) : s.enterStopped.RestLaw := by
  rw [State.enterStopped_eq]
  exact State.GrantLaw.restLaw (State.grantLaw_of_idle h) nofun

/-- The test of R186 makes sure of the law's part on STOPPING. -/
theorem State.GrantLaw.testStopped {s : State} (hs : s.GrantLaw) : s.testStopped.RestLaw := by
  unfold State.testStopped
  split
  · next h => exact State.enterStopped_restLaw (s.atRest_iff.1 h.2).2
  · next h => exact s.restLaw_iff.2 ⟨hs, fun hrun => s.not_atRest_iff.1 fun hrest => h ⟨hrun, hrest⟩⟩

theorem State.endGrant_restLaw (s : State) : s.endGrant.RestLaw := (State.grantLaw_of_idle rfl).testStopped

/-- A stop request enters STOPPED only at rest, and STOPPING only short of it (R185). -/
theorem State.stopRequest_restLaw {s : State} (hs : s.RestLaw) (c : Cause) : (s.stopRequest c).RestLaw := by
  have hserves := hs.grantLaw.serves
  unfold State.stopRequest
  cases s.run with
  | run => exact State.GrantLaw.testStopped ⟨nofun, hserves⟩
  | stopping => exact hs
  | stopped => exact hs
  | check =>
    dsimp only
    split
    · next h => exact State.enterStopped_restLaw (s := { s with cause := c }) (s.atRest_iff.1 h).2
    · next h => exact (State.restLaw_iff _).2 ⟨⟨nofun, hserves⟩, fun _ => s.not_atRest_iff.1 h⟩

/-- A start leads to RUN, or leaves the state (R187). -/
theorem State.start_restLaw {s : State} (hs : s.RestLaw) : s.start.RestLaw := by
  have hrunning : ({ s with run := .run } : State).RestLaw := State.GrantLaw.restLaw ⟨nofun, hs.grantLaw.serves⟩ nofun
  unfold State.start
  cases s.run with
  | run => exact hs
  | stopping => exact hrunning
  | stopped => exact hrunning
  | check =>
    dsimp only
    split
    · exact hrunning
    · exact hs

/-- An engine cause leaves no STOPPING (R164). -/
theorem State.GrantLaw.engineCause {s : State} (hs : s.GrantLaw) (c : Cause) : (s.engineCause c).RestLaw := by
  have hchecked : ({ s with run := .check, cause := c }.joinBoth .run).RestLaw := by
    rw [State.joinBoth_eq]
    exact State.GrantLaw.restLaw ⟨nofun, hs.serves⟩ nofun
  unfold State.engineCause
  cases hrun : s.run with
  | run => exact hchecked
  | stopping => exact hchecked
  | stopped => exact hs.restLaw (by rw [hrun]; nofun)
  | check =>
    dsimp only
    split
    · exact hs.restLaw (by rw [hrun]; nofun)
    · exact State.GrantLaw.restLaw ⟨nofun, hs.serves⟩ nofun

/-! ### The takings (R63) -/

/-- Whatever the taking, at its end none is under way and R186 has been tested. -/
theorem State.carryOut_restLaw (s : State) (i : StreamNo) (r : Resolved) (k : Taking) : (s.carryOut i r k).RestLaw := by
  have hfinished : ∀ u : State, (u.finishTaking i r).RestLaw := fun u => by
    refine (State.grantLaw_of_idle ?_).testStopped
    unfold State.actHalt
    split
    · exact State.stopRequest_taking _ _
    · rfl
  unfold State.carryOut
  dsimp only
  split
  · split
    · exact State.endGrant_restLaw _
    · exact hfinished _
  · exact State.endGrant_restLaw _

theorem State.take_restLaw {s : State} (hs : s.RestLaw) {α : Type} (pick : Body → Option α)
    (kind : State → StreamNo → Resolved → α → Taking) : (s.take pick kind).RestLaw := by
  unfold State.take
  split
  · split
    · exact hs
    · exact s.carryOut_restLaw _ _ _
  · split
    · split
      · exact s.endGrant_restLaw
      · exact hs
    · exact hs

/-- A grant is made outside STOPPED and STOPPING, to a bound stream with a record (R59, R60). -/
theorem State.makeGrant_restLaw {s : State} (hs : s.RestLaw) : s.makeGrant.RestLaw := by
  unfold State.makeGrant
  split
  · next i r hidle hgrant =>
    rw [State.grant_of_idle hidle, Option.bind_eq_some_iff] at hgrant
    obtain ⟨j, hj, hhead⟩ := hgrant
    obtain ⟨rfl, rest, hqueue⟩ := headPair_eq_some.1 hhead
    obtain ⟨hrun, heligible, -⟩ := (s.chosen_eq_some j).1 hj
    obtain ⟨hbound, -, -⟩ := (s.eligible_iff j).1 heligible
    refine State.GrantLaw.restLaw ⟨fun h => ?_, fun i hi => ?_⟩ fun h => ?_
    · rcases hrun with e | e <;> cases e.symm.trans h
    · cases hi
      exact ⟨hbound, hqueue ▸ List.cons_ne_nil _ _⟩
    · rcases hrun with e | e <;> cases e.symm.trans h
  · exact hs

/-! ### Cancellations and resets (R19, R24, R190) -/

theorem State.takingWithout_eq_none (s : State) (C : StreamNo → Bool) : s.takingWithout C = none ↔ s.taking = none := by
  unfold State.takingWithout
  match s.taking with
  | none => simp
  | some (.discarded _) => simp
  | some (.granted i) => dsimp only; split <;> simp

/-- The taking of a stream that is cancelled goes with its record; another stays (R19). -/
theorem State.taking_of_takingWithout {s : State} {C : StreamNo → Bool} {i : StreamNo} (hi : s.takingWithout C = some (.granted i))
    (hs : ∀ j, s.taking = some (.granted j) → (s.stream j).Serves) : s.taking = some (.granted i) ∧ C i = false := by
  unfold State.takingWithout at hi
  match htaking : s.taking with
  | none => simp [htaking] at hi
  | some (.discarded _) => simp [htaking] at hi
  | some (.granted j) =>
    rw [htaking] at hi
    obtain ⟨r, rest, hqueue⟩ := List.exists_cons_of_ne_nil (hs j htaking).head
    cases hC : C j with
    | true => simp [hC, hqueue] at hi
    | false =>
      simp only [hC, Option.some.injEq, UnderWay.granted.injEq] at hi
      exact hi ▸ ⟨rfl, hC⟩

theorem Cancelled.restLaw {after : Stream → Stream} {C : StreamNo → Bool} {s t : State} (h : Cancelled after C s t) (hs : s.RestLaw) :
    t.RestLaw := by
  obtain ⟨hgrant, hstopping⟩ := s.restLaw_iff.1 hs
  have hrun : t.run = s.run := by rw [h.frame]
  have hcount : t.outstanding = s.outstanding := by rw [h.frame]; rfl
  have hidle : t.taking = none ↔ s.taking = none := by rw [h.taking, State.takingWithout_eq_none]
  refine t.restLaw_iff.2 ⟨⟨fun e => hidle.2 (hgrant.stopped (hrun ▸ e)), fun i hi => ?_⟩, fun e => ?_⟩
  · rw [h.taking] at hi
    obtain ⟨hi, hC⟩ := State.taking_of_takingWithout hi hgrant.serves
    obtain ⟨hbound, hhead⟩ := hgrant.serves i hi
    rw [h.stream_of_notMem hC]
    exact ⟨(Stream.freed_binding _ _).symm ▸ hbound, (Stream.freed_queue _ _).symm ▸ hhead⟩
  · rw [hcount, ne_eq, hidle]
    exact hstopping (hrun ▸ e)

theorem State.resetPort_restLaw {s : State} (hs : s.RestLaw) (p : Port) : (s.resetPort p).RestLaw := by
  cases h : (s.port p).reset with
  | true => exact (State.resetPort_high h).symm ▸ hs
  | false =>
    rw [State.resetPort_low h]
    exact (State.foldl_unbindFrom_cancelled p allStreams (by decide) _).restLaw ((s.keepsRest_updPort p _).restLaw hs)

/-- A PURGE ends in STOPPED with no taking under way (R190). -/
theorem State.purge_restLaw {s : State} (hs : s.RestLaw) : s.purge.RestLaw := by
  have hpurged : s.purgeAll.RestLaw := by
    unfold State.purgeAll
    exact State.enterStopped_restLaw rfl
  unfold State.purge
  split
  · exact hpurged
  · exact hpurged
  · exact hs
  · exact hs

/-! ### Stacking (R98, R100, R101) -/

/-- An end of waits. -/
theorem State.KeepsRest.of_freed {t s : State} {ends : StreamNo → Wait → Bool}
    (hstream : ∀ i, t.stream i = (s.stream i).freed (ends i)) (hframe : t = { s with streams := t.streams }) : t.KeepsRest s :=
  .of_kept (by rw [hframe]) (fun i => by rw [hstream, Stream.freed_binding]) fun i => by rw [hstream, Stream.freed_queue]

theorem State.keepsRest_deliverMark (s : State) (i : StreamNo) (id : Word16) (n : Nat) (k : Stacker) :
    (s.deliverMark i id n k).KeepsRest s := by
  unfold State.deliverMark
  split
  · exact .rfl
  · exact (State.keepsRest_updPort _ _ _).trans (State.keepsRest_updStream_kept rfl rfl)

theorem State.keepsRest_deliverMarks (s : State) (i : StreamNo) (n : Nat) (k : Stacker) (ids : List Word16) :
    (s.deliverMarks i n k ids).KeepsRest s := by
  induction ids generalizing s with
  | nil => exact .rfl
  | cons id ids ih => exact (ih _).trans (s.keepsRest_deliverMark i id n k)

theorem State.keepsRest_completeSync (s : State) (i : StreamNo) : (s.completeSync i).KeepsRest s :=
  State.KeepsRest.trans (State.keepsRest_updStream_kept rfl rfl) <| (State.keepsRest_countCond _ i _).trans <|
    State.keepsRest_updStream_kept rfl rfl

theorem State.keepsRest_freePage (s : State) (r : PageRef) : (s.freePage r).KeepsRest s :=
  State.KeepsRest.trans (.of_freed (State.stream_endStoreWaits_endPinWaits _) rfl) (.of_frame rfl)

theorem State.keepsRest_stackPage (s : State) (p : Page) : (s.stackPage p).KeepsRest s := by
  have hcounted : ((s.deliverMarks p.stream p.number p.stacker p.marks).updStream p.stream
      fun t => { t with pagesStacked := t.pagesStacked + 1 }).KeepsRest s :=
    (State.keepsRest_updStream_kept rfl rfl).trans (s.keepsRest_deliverMarks _ _ _ _)
  refine (State.keepsRest_freePage _ _).trans ?_
  split
  · exact (State.keepsRest_completeSync _ _).trans hcounted
  · exact hcounted

theorem State.keepsRest_confirmCopy (s : State) (r : PageRef) : (s.confirmCopy r).KeepsRest s := by
  unfold State.confirmCopy
  split
  · exact .rfl
  · dsimp only
    split
    · exact (State.keepsRest_stackPage _ _).trans (.of_frame rfl)
    · exact .of_frame rfl

/-! ### Imager and engine -/

theorem State.keepsRest_renderingDone (s : State) : s.renderingDone.KeepsRest s := by
  unfold State.renderingDone
  split
  · exact .rfl
  · split
    · exact .rfl
    · refine State.KeepsRest.trans (.of_frame rfl) ((State.keepsRest_countIf _ _ _ _).trans ?_)
      split
      · exact .of_frame rfl
      · exact .rfl

theorem State.keepsRest_sendDone (s : State) : s.sendDone.KeepsRest s := by
  unfold State.sendDone
  split
  · exact .rfl
  · split
    · exact .rfl
    · dsimp only
      split
      · exact .of_frame rfl
      · exact .of_frame rfl

/-- A copy is issued in RUN alone (R155). -/
theorem State.issueSheet_restLaw {s : State} (hs : s.RestLaw) : s.issueSheet.RestLaw := by
  unfold State.issueSheet
  split
  · next h =>
    split
    · have hrun : s.run = .run := (of_decide_eq_true h).1
      exact State.GrantLaw.restLaw ⟨hs.grantLaw.stopped, hs.grantLaw.serves⟩ (show s.run ≠ .stopping by rw [hrun]; nofun)
    · exact hs
  · exact hs

theorem State.jamEvent_restLaw {s : State} (hs : s.RestLaw) (d : DevCond) (c : Cause) : (s.jamEvent d c).RestLaw := by
  have hrecovered : s.recover.GrantLaw := ⟨hs.grantLaw.stopped, hs.grantLaw.serves⟩
  exact ((State.keepsRest_deviceCond _ d).grantLaw hrecovered).engineCause c

theorem State.confirmOldest_restLaw {s : State} (hs : s.RestLaw) : s.confirmOldest.RestLaw := by
  have hadvanced : ({ s with
      confirm := s.confirm + 1, ring := s.ring.set (tagIndex s.confirm) none, sheetsStacked := s.sheetsStacked + 1 } : State).GrantLaw :=
    ⟨hs.grantLaw.stopped, hs.grantLaw.serves⟩
  unfold State.confirmOldest
  refine State.GrantLaw.testStopped (State.KeepsRest.grantLaw (.of_frame rfl) ?_)
  split
  · exact (State.keepsRest_confirmCopy _ _).grantLaw hadvanced
  · exact hadvanced

theorem State.stackedReport_restLaw {s : State} (hs : s.RestLaw) (tag : BitVec 4) : (s.stackedReport tag).RestLaw := by
  unfold State.stackedReport
  split
  · split
    · exact State.confirmOldest_restLaw hs
    · exact State.jamEvent_restLaw hs _ _
  · exact (s.keepsRest_deviceCond _).restLaw hs

theorem State.lossOfReadiness_restLaw {s : State} (hs : s.RestLaw) (d : DevCond) (c : Cause) : (s.lossOfReadiness d c).RestLaw :=
  ((State.keepsRest_deviceCond _ d).grantLaw (State.KeepsRest.grantLaw (.of_frame rfl) hs.grantLaw)).engineCause c

theorem State.numberedReport_restLaw {s : State} (hs : s.RestLaw) (n : Nat) (d : DevCond) (c : Cause) :
    (s.numberedReport n d c).RestLaw := by
  unfold State.numberedReport
  split
  · exact State.lossOfReadiness_restLaw hs d c
  · exact hs

theorem State.readyReport_restLaw {s : State} (hs : s.RestLaw) : s.readyReport.RestLaw := by
  unfold State.readyReport
  dsimp only
  split
  · exact State.GrantLaw.restLaw ⟨nofun, hs.grantLaw.serves⟩ nofun
  · exact State.KeepsRest.restLaw (.of_frame rfl) hs

theorem State.stackTimerExpires_restLaw {s : State} (hs : s.RestLaw) : s.stackTimerExpires.RestLaw := by
  unfold State.stackTimerExpires
  split
  · exact State.jamEvent_restLaw hs _ _
  · exact hs

theorem State.panelSample_restLaw {s : State} (hs : s.RestLaw) (r : KeySample) (c : PanelCommand) {effect : State → State}
    (h : ∀ u, u.RestLaw → (effect u).RestLaw) : (s.panelSample r c effect).RestLaw := by
  unfold State.panelSample
  split
  · exact h _ (State.KeepsRest.restLaw (.of_frame rfl) hs)
  · exact hs

/-! ### Records at the gate -/

theorem State.keepsRest_refuse (s : State) (p : Port) (bytes : List Byte) (r : Reason) : (s.refuse p bytes r).KeepsRest s := by
  refine State.KeepsRest.trans (State.keepsRest_updPort _ p _) ?_
  unfold State.countRefusal
  split
  · exact .rfl
  · split
    · exact s.keepsRest_countCond _ _
    · exact .rfl

/-- An end event keeps the rest law where the rule of its row does, for the records it takes (R4). -/
theorem State.endEvent_restLaw {α : Type} {s : State} (hs : s.RestLaw) (row : Row) (p : Port)
    (operands : Header → Except Reason α) (rule : Header → α → State → Ruling)
    (hrule : ∀ h a u v o f, u.RestLaw → rule h a u = .taken v o f → v.RestLaw) : (s.endEvent row p operands rule).RestLaw := by
  have hlow : (s.lowerFrame p).RestLaw := (s.keepsRest_updPort p _).restLaw hs
  have hanswer : ∀ (u : State) a o f, u.RestLaw → (u.answer p a o f).RestLaw := fun u _ _ _ => (u.keepsRest_updPort p _).restLaw
  have hrefuse : ∀ r, ((s.lowerFrame p).refuse p (s.port p).bytes r).RestLaw := fun r => (State.keepsRest_refuse _ p _ r).restLaw hlow
  rcases s.endEvent_cases row p operands rule with e | e | ⟨r, -, e⟩ | ⟨h, -, ⟨r, e⟩ | e | ⟨a, u, o, f, ht, e⟩⟩
  · rwa [e]
  · exact e ▸ hlow
  · exact e ▸ hrefuse r
  · exact e ▸ hrefuse r
  · exact e ▸ hanswer _ _ _ _ hlow
  · have hcounted : (u.countTaken h.stream).KeepsRest u := State.keepsRest_updStream_kept rfl rfl
    exact e ▸ hanswer _ _ _ _ (hcounted.restLaw (hrule h a _ u o f hlow ht.ruled))

/-- A record at the tail of its stream's queue (R11). -/
theorem State.keepsRest_enqueue (s : State) (i : StreamNo) (r : Resolved) : (s.enqueue i r).KeepsRest s :=
  State.keepsRest_updStream fun h => ⟨h.bound, List.append_ne_nil_of_left_ne_nil h.head _⟩

theorem queueControl_keepsRest {h : Header} {b : Body} {u v : State} {o : Bool} {f : List Byte}
    (e : queueControl h b u = .taken v o f) : v.KeepsRest u := by
  unfold queueControl at e
  split at e
  · cases e
  · cases e
    exact u.keepsRest_enqueue _ _

theorem closeRule_keepsRest {h : Header} {a : Unit} {u v : State} {o : Bool} {f : List Byte}
    (e : closeRule h a u = .taken v o f) : v.KeepsRest u := by
  unfold closeRule at e
  split at e
  · cases e
  · cases e
    exact State.KeepsRest.trans (State.keepsRest_updStream_kept rfl rfl) (u.keepsRest_enqueue _ _)

theorem printRule_keepsRest {p : Port} {h : Header} {data : List Byte} {u v : State} {o : Bool} {f : List Byte}
    (e : printRule p h data u = .taken v o f) : v.KeepsRest u := by
  unfold printRule at e
  split at e
  · cases e
  · cases e
    exact (State.keepsRest_countIf _ _ _ _).trans <| (State.keepsRest_countIf _ _ _ _).trans <|
      State.KeepsRest.trans (State.keepsRest_updStream_kept rfl rfl) (u.keepsRest_enqueue _ _)

theorem senseStreamRule_keepsRest {p : Port} {i : StreamNo} {u v : State} {o : Bool} {f : List Byte}
    (e : senseStreamRule p i u = .taken v o f) : v.KeepsRest u := by
  unfold senseStreamRule at e
  split at e
  · cases e
    exact (State.keepsRest_updPort _ _ _).trans (State.keepsRest_updStream_kept rfl rfl)
  · cases e

/-- A stream is opened bound, with the queue it has (R16, R17). -/
theorem streamOpenRule_keepsRest {p : Port} {i : StreamNo} {g : OpenOperands} {u v : State} {o : Bool} {f : List Byte}
    (e : streamOpenRule p i g u = .taken v o f) : v.KeepsRest u := by
  unfold streamOpenRule at e
  split at e
  · split at e
    · cases e
    · cases e
      exact State.keepsRest_updStream fun h => ⟨Option.some_ne_none p, h.head⟩
  · split at e
    · cases e
    · cases e
      exact State.keepsRest_updStream_kept rfl rfl

/-- A stream is released only with an empty queue, so not the one that serves (R18). -/
theorem streamReleaseRule_keepsRest {i : StreamNo} {u v : State} {o : Bool} {f : List Byte}
    (e : streamReleaseRule i u = .taken v o f) : v.KeepsRest u := by
  unfold streamReleaseRule at e
  split at e
  · cases e
  · next hidle =>
    cases e
    simp only [State.active, Bool.or_eq_true, decide_eq_true_eq, not_or, not_not] at hidle
    obtain ⟨⟨⟨⟨hqueue, -⟩, -⟩, -⟩, -⟩ := hidle
    exact State.keepsRest_updStream fun h => absurd hqueue h.head

theorem formLoadRule_keepsRest {k : Fin 4} {form : Form} {u v : State} {o : Bool} {f : List Byte}
    (e : formLoadRule k form u = .taken v o f) : v.KeepsRest u := by
  unfold formLoadRule at e
  split at e
  · cases e
  · cases e
    exact .of_frame rfl

theorem engineSetRule_keepsRest {g : EngineSettings} {u v : State} {o : Bool} {f : List Byte}
    (e : engineSetRule g u = .taken v o f) : v.KeepsRest u := by
  unfold engineSetRule at e
  split at e
  · cases e
    exact .of_frame rfl
  · cases e

/-! ### Every command, every step -/

theorem exec_restLaw (c : Instr) (s : State) (hs : s.RestLaw) : ∃ t, exec c s = .next t ∧ t.RestLaw := by
  have law {t : State} (e : exec c s = .next t) (h : t.RestLaw) : ∃ t, exec c s = .next t ∧ t.RestLaw := ⟨t, e, h⟩
  have keeps {t : State} (e : exec c s = .next t) (h : t.KeepsRest s) : ∃ t, exec c s = .next t ∧ t.RestLaw := law e (h.restLaw hs)
  have gate {α : Type} {row : Row} {p : Port} {operands : Header → Except Reason α} {rule : Header → α → State → Ruling}
      (e : exec c s = .next (s.endEvent row p operands rule))
      (hrule : ∀ h a u v o f, rule h a u = .taken v o f → v.KeepsRest u) : ∃ t, exec c s = .next t ∧ t.RestLaw :=
    law e (State.endEvent_restLaw hs row p operands rule fun h a u v o f hu ev => (hrule h a u v o f ev).restLaw hu)
  cases c with
  | powerOnReset =>
    obtain ⟨-, -, -, -, -, hreset⟩ := resetMeetsTheLaws
    exact law rfl hreset
  | portReset p => exact law rfl (State.resetPort_restLaw hs p)
  | resetRelease p | frameRise p | answerReturn p n | byteStrobe p b => exact keeps rfl (s.keepsRest_updPort p _)
  | print p => exact gate rfl fun _ _ _ _ _ _ => printRule_keepsRest
  | mark p => exact gate rfl fun h id _ _ _ _ => queueControl_keepsRest (h := h) (b := .mark id)
  | close p => exact gate rfl fun _ _ _ _ _ _ => closeRule_keepsRest
  | xlateLoad p | pairLoad p | pairClear p | geometryLoad p | streamSet p | overlayBegin p | overlayEntries p | overlayEnd p =>
    exact gate rfl fun _ _ _ _ _ _ => queueControl_keepsRest
  | senseDevice p | senseMark p | portSet p =>
    exact gate rfl fun _ _ u _ _ _ e => by cases e; exact u.keepsRest_updPort p _
  | senseStream p => exact gate rfl fun _ _ _ _ _ _ => senseStreamRule_keepsRest
  | streamOpen p => exact gate rfl fun _ _ _ _ _ _ => streamOpenRule_keepsRest
  | streamRelease p => exact gate rfl fun _ _ _ _ _ _ => streamReleaseRule_keepsRest
  | cancel p =>
    exact law rfl (State.endEvent_restLaw hs _ p _ _ fun h _ u _ _ _ hu e => by
      cases e; exact (u.cancelStream_cancelled h.stream).restLaw hu)
  | formLoad p => exact gate rfl fun _ _ _ _ _ _ => formLoadRule_keepsRest
  | formSelect p => exact gate rfl fun _ _ _ _ _ _ e => by cases e; exact State.keepsRest_updStream_kept rfl rfl
  | stop p =>
    exact law rfl (State.endEvent_restLaw hs _ p _ _ fun _ _ _ _ _ _ hu e => by cases e; exact State.stopRequest_restLaw hu _)
  | resume p =>
    exact law rfl (State.endEvent_restLaw hs _ p _ _ fun _ _ _ _ _ _ hu e => by cases e; exact State.start_restLaw hu)
  | engineSet p => exact gate rfl fun _ _ _ _ _ _ => engineSetRule_keepsRest
  | takePrint | takeMark | takeClose | takeXlateLoad | takePairLoad | takePairClear | takeGeometryLoad | takeStreamSet
  | takeOverlayBegin | takeOverlayEntries | takeOverlayEnd => exact law rfl (State.take_restLaw hs _ _)
  | pageAgeExpiry i => exact keeps rfl (State.keepsRest_updStream_kept rfl rfl)
  | selection => exact keeps rfl (.of_frame (by rw [State.select_frame]))
  | renderingComplete => exact keeps rfl s.keepsRest_renderingDone
  | sheet => exact law rfl (State.issueSheet_restLaw hs)
  | sendComplete => exact keeps rfl s.keepsRest_sendDone
  | ready => exact law rfl (State.readyReport_restLaw hs)
  | notReady => exact law rfl (State.lossOfReadiness_restLaw hs _ _)
  | trayEmpty n | stackerFull n => exact law rfl (State.numberedReport_restLaw hs n _ _)
  | stacked tag => exact law rfl (State.stackedReport_restLaw hs tag)
  | jam => exact law rfl (State.jamEvent_restLaw hs _ _)
  | restarted => exact law rfl (State.jamEvent_restLaw (State.KeepsRest.restLaw (.of_frame rfl) hs) _ _)
  | unrecognisedReport code => exact law rfl hs
  | stackTimeout => exact law rfl (State.stackTimerExpires_restLaw hs)
  | panelStart k => exact law rfl (State.panelSample_restLaw hs k _ fun _ => State.start_restLaw)
  | panelStop k => exact law rfl (State.panelSample_restLaw hs k _ fun _ hu => State.stopRequest_restLaw hu _)
  | purge k => exact law rfl (State.panelSample_restLaw hs k _ fun _ => State.purge_restLaw)
  | keySample k => exact law rfl (State.panelSample_restLaw hs k _ fun _ hu => hu)

/-- Settles O56: a command on the rest of the queue keeps the law, and so does the grant made on an empty queue. -/
theorem everyStepKeepsTheRestLaw : Obligations.EveryStepKeepsTheRestLaw := by
  unfold Obligations.EveryStepKeepsTheRestLaw
  intro s t hs h
  unfold step at h
  split at h
  · cases h
    exact State.makeGrant_restLaw hs
  · next c rest _ =>
    obtain ⟨u, hu, hlaw⟩ := exec_restLaw c { s with pending := rest } hs
    rw [hu] at h
    cases h
    exact hlaw

end Sys2Proof.Machine
end

section
/-! One step of the block (R59), and the takings that load no table: MARK, CLOSE, GEOMETRY LOAD and STREAM SET (R73, R74, R79, R110). -/

namespace Sys2Proof.Machine

/-! ### One step -/

theorem step_of_empty {s : State} (h : s.pending = []) : step s = .next s.makeGrant := by
  rw [step, h]

theorem State.makeGrant_of_idle {s : State} {i : StreamNo} {r : Resolved} (hidle : s.taking = none) (hgrant : s.grant = some (i, r)) :
    s.makeGrant = { s with taking := some (.granted i) } := by
  rw [State.makeGrant, hidle, hgrant]

theorem State.makeGrant_of_none {s : State} (h : s.taking ≠ none ∨ s.grant = none) : s.makeGrant = s := by
  unfold State.makeGrant
  split
  · next hidle hgrant =>
    rcases h with h | h
    · exact absurd hidle h
    · cases hgrant.symm.trans h
  · rfl

/-- Settles O1. -/
theorem stepRunsTheFrontCommand : Obligations.StepRunsTheFrontCommand := by
  unfold Obligations.StepRunsTheFrontCommand
  refine ⟨fun c rest s => rfl, fun s hempty => ⟨fun i r hidle hgrant => ?_, fun h => ?_⟩⟩
  · rw [step_of_empty hempty, State.makeGrant_of_idle hidle hgrant]
  · rw [step_of_empty hempty, State.makeGrant_of_none h]

/-! ### Takings without a control test -/

section
variable {s : State} {i : StreamNo} {r : Resolved}

/-- A composer command whose granted record is of its kind, with its space found and no control test to pass: the emission before, the
action, and the end of the taking (R63). -/
theorem State.take_of_untested {α : Type} {pick : Body → Option α} {kind : State → StreamNo → Resolved → α → Taking} {a : α}
    (hgranted : s.Granted i r) (hpick : pick r.body = some a) (hlines : (kind s i r a).lines = s.takingLines i r)
    (htests : (kind s i r a).tests = noTest) :
    s.take pick kind = ((kind s i r a).act ((kind s i r a).before (s.beginGrant i))).finished i r := by
  obtain ⟨hgrant, hspace⟩ := hgranted
  rw [State.take_of_ownKind hgrant hpick]
  exact State.carryOut_of_passed (hlines ▸ hspace) (by rw [htests]; rfl)

end

/-- Settles O27: the four takings, each by its steps of R63. -/
theorem markCloseGeometryAndStreamSetAreTaken : Obligations.MarkCloseGeometryAndStreamSetAreTaken := by
  unfold Obligations.MarkCloseGeometryAndStreamSetAreTaken
  intro s i r hgranted e
  refine ⟨fun id hbody => ?mark, fun hbody => ?close, fun k g hbody => ?geometry, fun a hbody => ?streamSet⟩
  case mark =>
    have hlines : (markTaking s i r id).lines = s.takingLines i r := by rw [State.takingLines, hbody]; rfl
    exact congrArg Host.Outcome.next (State.take_of_untested (a := id) hgranted (by rw [hbody]) hlines rfl)
  all_goals have hlines : s.bufferLine i = s.takingLines i r := by rw [State.takingLines, hbody]
  case close => exact congrArg Host.Outcome.next (State.take_of_untested (a := ()) hgranted (by rw [hbody]) hlines rfl)
  case geometry => exact congrArg Host.Outcome.next (State.take_of_untested (a := (k, g)) hgranted (by rw [hbody]) hlines rfl)
  case streamSet => exact congrArg Host.Outcome.next (State.take_of_untested (a := a) hgranted (by rw [hbody]) hlines rfl)

end Sys2Proof.Machine
end

section
/-! The Page Store: pages close (R62, R88, R94), become STACKED and are freed (R98, R100, R101). -/

namespace Sys2Proof.Machine

/-! ### Page close and page age -/

theorem State.closePage_of_none {s : State} {i : StreamNo} (h : s.openPage i = none) : s.closePage i = s := by
  rw [State.closePage, h]

/-- The close of an OPEN page; the STORE waits end where its reservation held slots back (R88, R94). -/
theorem State.closePage_of_some {s : State} {i : StreamNo} {p : Page} (h : s.openPage i = some p) :
    s.closePage i =
      let closed := (s.updPage p.ref fun q => { q with state := .closed, reservation := 0 }).updStream i
        fun t => { t with pageAge := .stopped }
      if p.reservation = 0 then closed else closed.endStoreWaits := by
  rw [State.closePage, h]
  dsimp only
  by_cases hzero : p.reservation = 0
  · rw [if_neg (by omega), if_pos hzero]
  · rw [if_pos (by omega), if_neg hzero]

/-- Settles O35. -/
theorem pageCloseAndPageAge : Obligations.PageCloseAndPageAge := by
  unfold Obligations.PageCloseAndPageAge
  intro s i
  obtain ⟨hnone, hsome⟩ := s.openPage_spec i
  refine ⟨hnone, hsome, State.closePage_of_none, fun p hp => State.closePage_of_some hp, ?_⟩
  refine congrArg (fun f => Host.Outcome.next (s.updStream i f)) (funext fun t => ?_)
  cases t.pageAge with
  | stopped => rfl
  | running n => rfl
  | expired => rfl

/-! ### Stacking -/

/-- Marks are delivered one after another (R98). -/
theorem State.deliverMarks_eq_foldl (s : State) (i : StreamNo) (n : Nat) (k : Stacker) (ids : List Word16) :
    s.deliverMarks i n k ids = ids.foldl (fun u id => u.deliverMark i id n k) s := by
  induction ids generalizing s with
  | nil => rfl
  | cons id ids ih => exact ih _

/-- A delivery ends no wait. -/
theorem State.wait_deliverMarks (s : State) (i j : StreamNo) (n : Nat) (k : Stacker) (ids : List Word16) :
    ((s.deliverMarks i n k ids).stream j).wait = (s.stream j).wait := by
  have hone : ∀ (u : State) id, ((u.deliverMark i id n k).stream j).wait = (u.stream j).wait := fun u id => by
    unfold State.deliverMark
    split
    · rfl
    · rw [State.stream_updPort, State.stream_updStream]
      split <;> rfl
  induction ids generalizing s with
  | nil => rfl
  | cons id ids ih => exact (ih _).trans (hone s id)

theorem State.pinCount_eq_zero_iff (s : State) (k : Fin 8) : s.pinCount k = 0 ↔ s.pages.any (fun q => decide (q.overlay = some k)) = false := by
  simp [State.pinCount, List.countP_eq_zero]

/-- A page's record goes, and with it the STORE waits and the PIN waits on a slot that no page names any more (R83, R128). -/
theorem State.freePage_eq {s : State} {pages : List Page} (h : s.pages = pages) (r : PageRef) :
    s.freePage r = { s with
      pages := pages.filter fun q => decide (q.ref ≠ r)
      streams := s.streams.map fun t =>
        match t.wait with
        | .store => { t with wait := .none }
        | .pin k => if (pages.filter fun q => decide (q.ref ≠ r)).any (fun q => decide (q.overlay = some k)) then t
            else { t with wait := .none }
        | _ => t } := by
  subst h
  have hpages : (s.pages.filter fun q => !decide (q.ref = r)) = s.pages.filter fun q => decide (q.ref ≠ r) :=
    List.filter_congr fun q _ => (decide_not (p := q.ref = r)).symm
  have hframe : s.freePage r = { s with
      pages := s.pages.filter fun q => decide (q.ref ≠ r), streams := (s.freePage r).streams } := by rw [← hpages]; rfl
  rw [hframe]
  congr 1
  refine Bank.ext_get fun j => ?_
  rw [Bank.get_map, ← hpages, show s.streams.get j = s.stream j from rfl]
  refine (State.stream_endStoreWaits_endPinWaits _ j).trans ?_
  show Stream.freed (s.stream j) _ = _
  unfold Stream.freed
  generalize s.stream j = t
  cases t.wait with
  | pin k =>
    dsimp only
    simp only [State.pinCount_eq_zero_iff, decide_eq_true_eq]
    cases (s.pages.filter fun q => !decide (q.ref = r)).any fun q => decide (q.overlay = some k) <;> rfl
  | none => rfl
  | fence k => rfl
  | sync => rfl
  | store => rfl

/-- The stacking of a page, by its steps (R101). -/
theorem State.stackPage_eq (s : State) (p : Page) :
    s.stackPage p =
      let told := (s.deliverMarks p.stream p.number p.stacker p.marks).updStream p.stream
        fun t => { t with pagesStacked := t.pagesStacked + 1 }
      State.freePage (if p.syncPoint = true ∧ (s.stream p.stream).wait = .sync then told.completeSync p.stream else told) p.ref := by
  unfold State.stackPage
  dsimp only
  rw [State.stream_updStream_self, State.wait_deliverMarks]

/-- Settles O44. -/
theorem stackedPageIsFreed : Obligations.StackedPageIsFreed := by
  unfold Obligations.StackedPageIsFreed
  intro s p told synced left
  have htold : (s.deliverMarks p.stream p.number p.stacker p.marks).updStream p.stream
      (fun t => { t with pagesStacked := t.pagesStacked + 1 }) = told := by rw [State.deliverMarks_eq_foldl]
  have hsynced : (if p.syncPoint = true ∧ (s.stream p.stream).wait = .sync then told.completeSync p.stream else told) = synced := rfl
  have htoldPages : told.pages = s.pages := by rw [← htold, State.deliverMarks_frame]; rfl
  have hpages : synced.pages = s.pages := by
    rw [← hsynced]
    split
    · rw [State.completeSync_frame]; exact htoldPages
    · exact htoldPages
  rw [State.stackPage_eq]
  dsimp only
  rw [htold, hsynced]
  exact State.freePage_eq hpages p.ref

end Sys2Proof.Machine
end

section
/-! Emission (R71, R72, R82): the composed line of a buffer, cell by cell, and what is left when the buffer has become EMPTY. -/

namespace Sys2Proof.Machine

/-! ### The composed line -/

/-- The cell as a composed line holds it (R71). -/
def Cell.composed (c : Cell) : LineCell :=
  { base := c.base, overGlyph := c.overGlyph, weight := c.weight, underline := c.underline }

/-- A cell that is not empty (R65). -/
theorem Cell.isEmpty_eq_false_iff (c : Cell) :
    c.isEmpty = false ↔ c.base ≠ none ∨ c.overGlyph ≠ none ∨ c.underline = true := by
  unfold Cell.isEmpty
  cases c.base <;> cases c.overGlyph <;> cases c.underline <;> simp

/-- With every cell empty there is no cell to compose (R72). -/
theorem lineCells_of_empty {cells : Bank Cell 160} (h : ∀ j, (cells.get j).isEmpty = true) : lineCells cells = [] := by
  have hall : ∀ c ∈ cells.items.reverse, c.isEmpty = true := fun c hc => by
    obtain ⟨j, rfl⟩ := cells.exists_get_of_mem (List.mem_reverse.1 hc)
    exact h j
  rw [lineCells, List.dropWhile_eq_nil_iff.2 hall]
  rfl

/-- The cells of a line are those up to the highest non-empty position (R71). -/
theorem lineCells_of_highest {cells : Bank Cell 160} {top : Fin 160} (htop : (cells.get top).isEmpty = false)
    (habove : ∀ j, top < j → (cells.get j).isEmpty = true) :
    lineCells cells = (cells.items.take (top.val + 1)).map Cell.composed := by
  have hlt : top.val < cells.items.length := cells.size.symm ▸ top.isLt
  have hrest : ∀ c ∈ (cells.items.drop (top.val + 1)).reverse, c.isEmpty = true := fun c hc => by
    obtain ⟨k, hk, rfl⟩ := List.mem_iff_getElem.1 (List.mem_reverse.1 hc)
    rw [List.getElem_drop]
    rw [List.length_drop, cells.size] at hk
    exact habove ⟨top.val + 1 + k, by omega⟩ (Fin.lt_def.2 (by dsimp only; omega))
  have hhead : ¬ (cells.items[top.val]).isEmpty = true := Bool.eq_false_iff.1 htop
  have htake : cells.items.take (top.val + 1) = cells.items.take top.val ++ [cells.items[top.val]] :=
    List.take_succ_eq_append_getElem hlt
  unfold lineCells
  refine congrArg (List.map Cell.composed) ?_
  calc (cells.items.reverse.dropWhile Cell.isEmpty).reverse
    _ = (((cells.items.drop (top.val + 1)).reverse ++ (cells.items.take (top.val + 1)).reverse).dropWhile Cell.isEmpty).reverse := by
        rw [← List.reverse_append, List.take_append_drop]
    _ = ((cells.items.take (top.val + 1)).reverse.dropWhile Cell.isEmpty).reverse := by
        rw [List.dropWhile_append_of_pos hrest]
    _ = cells.items.take (top.val + 1) := by
        rw [htake, List.reverse_append, List.reverse_singleton, List.singleton_append, List.dropWhile_cons_of_neg hhead,
          List.reverse_cons, List.reverse_reverse]

theorem Assembly.composed_of_empty {b : Assembly} (h : lineCells b.cells = []) : b.composed = none :=
  if_pos (by rw [Assembly.highest, h]; rfl)

theorem Assembly.composed_of_cells {b : Assembly} (h : lineCells b.cells ≠ []) :
    b.composed = some { sequence := b.sequence, line := b.line, length := b.length, pitch := b.pitch, width := b.width,
                        cells := lineCells b.cells } :=
  if_neg fun e => h (List.length_eq_zero_iff.1 e)

/-! ### The buffer becomes EMPTY -/

theorem State.emit_of_none {s : State} {i : StreamNo} (h : (s.stream i).buffer = none) : s.emit i = s := by
  rw [State.emit, h]

/-- The state with the stream's buffer EMPTY, and the FENCE waits ended that its set no longer holds up (R82). -/
def State.buffersOff (s : State) (i : StreamNo) (k : Fin 2) : State :=
  (s.updStream i fun t => { t with buffer := none }).reexamineFence k

theorem State.emit_of_composed {s : State} {i : StreamNo} {b : Assembly} {ln : ComposedLine} (hb : (s.stream i).buffer = some b)
    (hln : b.composed = some ln) :
    s.emit i = ((s.receiveLine i ln).updStream i fun t => { t with linesComposed := t.linesComposed + 1 }).buffersOff i b.tableSet := by
  simp only [State.emit, hb, hln, State.buffersOff]

theorem State.emit_of_not_composed {s : State} {i : StreamNo} {b : Assembly} (hb : (s.stream i).buffer = some b)
    (hln : b.composed = none) : s.emit i = s.buffersOff i b.tableSet := by
  simp only [State.emit, hb, hln, State.buffersOff]

/-- The FENCE waits that a re-examination ends, by the buffers of the other streams (R80, R82). -/
theorem State.reexamineFence_eq (s : State) (k : Fin 2) :
    s.reexamineFence k = { s with
      streams := s.streams.mapIdx fun j t =>
        if t.wait = .fence k ∧ ∀ m : StreamNo, m ≠ j → ∀ c, (s.stream m).buffer = some c → c.tableSet ≠ k then
          { t with wait := .none }
        else t } := by
  have hclear : ∀ j, s.fenceClear j k = true ↔ ∀ m : StreamNo, m ≠ j → ∀ c, (s.stream m).buffer = some c → c.tableSet ≠ k :=
    fun j => s.fenceClear_iff_buffer j k
  simp only [State.reexamineFence, hclear]

/-- Settles O32. -/
theorem emissionHandsTheLineOver : Obligations.EmissionHandsTheLineOver := by
  unfold Obligations.EmissionHandsTheLineOver
  refine fun s i => ⟨fun hnone => ⟨State.emit_of_none hnone, by rw [State.bufferLine, hnone]⟩, fun b hb => ?_⟩
  intro inked left
  have hleft : ∀ u : State, u.buffersOff i b.tableSet = left u := fun u => State.reexamineFence_eq _ _
  have hinked : ∀ j, (b.cells.get j).isEmpty = false ↔ inked j := fun j => (b.cells.get j).isEmpty_eq_false_iff
  have hblank : ∀ j, ¬ inked j → (b.cells.get j).isEmpty = true := fun j hj => by simpa [← hinked] using hj
  refine ⟨State.bufferLine_of_some hb, fun hempty => ?_, fun top htop hhighest => ?_⟩
  · have hnone := Assembly.composed_of_empty (lineCells_of_empty fun j => hblank j (hempty j))
    exact ⟨(State.emit_of_not_composed hb hnone).trans (hleft s), hnone⟩
  · have hcells := lineCells_of_highest ((hinked top).2 htop) fun j hj => hblank j fun hji => absurd (hhighest j hji) (not_le.2 hj)
    have hlength : (lineCells b.cells).length = top.val + 1 := by
      rw [hcells, List.length_map, List.length_take, b.cells.size]
      omega
    have hsome := Assembly.composed_of_cells (b := b) fun e => by rw [e] at hlength; cases hlength
    refine ⟨_, hsome, (State.emit_of_composed hb hsome).trans (hleft _), rfl, rfl, rfl, rfl, rfl, hlength, fun j hj => ?_⟩
    have hj : j.val < top.val + 1 := Nat.lt_succ_of_le hj
    have hget : b.cells.items[j.val]? = some (b.cells.get j) := List.getElem?_eq_getElem _
    rw [hcells, List.getElem?_map, List.getElem?_take_of_lt hj, hget]
    rfl

end Sys2Proof.Machine
end

section
/-! The arrival of a line (R62, R90 to R93, R96): it joins the OPEN page of its form sequence, closes another, or opens blank pages and its
own page. -/

namespace Sys2Proof.Machine

/-! ### The pages an arrival opens -/

/-- The page numbered `k` of those that an arrival with `made` blank pages opens: the blank pages first, in ascending form sequence, and
the line's own page last, still without the line. -/
def State.pageOpened (s : State) (i : StreamNo) (ln : ComposedLine) (made k : Nat) : Page :=
  ({ s.stream i with pageCounter := nextPageNumber^[k] (s.stream i).pageCounter } : Stream).newPage i (s.pagesOpened + k)
    (s.geometry.get (s.stream i).attributes.geometry) ln (ln.sequence - BitVec.ofNat 16 (made - k)) (decide (k ≠ made))

/-- The state with the first `n` of them opened. -/
def State.withOpened (s : State) (i : StreamNo) (ln : ComposedLine) (made n : Nat) : State :=
  { s with
    pages := s.pages ++ (List.range n).map (s.pageOpened i ln made)
    pagesOpened := s.pagesOpened + n }.updStream i fun u => { u with pageCounter := nextPageNumber^[n] u.pageCounter }

theorem Bank.modify_eq_self {α : Type} {n : Nat} (b : Bank α n) (i : Fin n) {f : α → α} (h : f (b.get i) = b.get i) : b.modify i f = b := by
  apply Bank.ext_get
  intro j
  rw [Bank.get_modify]
  split
  · next e => exact e ▸ h
  · rfl

theorem State.withOpened_zero (s : State) (i : StreamNo) (ln : ComposedLine) (made : Nat) : s.withOpened i ln made 0 = s := by
  have hstreams := Bank.modify_eq_self s.streams i (f := fun u => { u with pageCounter := u.pageCounter }) rfl
  simp [State.withOpened, State.updStream, hstreams]

/-- The next page opens (R90, R92, R96). -/
theorem State.makePage_withOpened (s : State) (i : StreamNo) (ln : ComposedLine) (made n : Nat) :
    (s.withOpened i ln made n).makePage i ln (ln.sequence - BitVec.ofNat 16 (made - n)) (decide (n ≠ made))
      = s.withOpened i ln made (n + 1) := by
  have hstream : (s.withOpened i ln made n).stream i
      = { s.stream i with pageCounter := nextPageNumber^[n] (s.stream i).pageCounter } := State.stream_updStream_self _ _ _
  unfold State.makePage
  rw [hstream]
  simp only [State.withOpened, State.updStream, Bank.modify_modify, List.range_succ, List.map_append, List.append_assoc,
    Function.iterate_succ_apply']
  rfl

/-- The blank pages, and then the line's own (R96). -/
theorem State.makeBlanks_withOpened (s : State) (i : StreamNo) (ln : ComposedLine) {made n : Nat} (h : n ≤ made) :
    (s.withOpened i ln made (made - n)).makeBlanks i ln n = s.withOpened i ln made made := by
  induction n with
  | zero => rfl
  | succ n ih =>
    have hpage := s.makePage_withOpened i ln made (made - (n + 1))
    rw [show made - (made - (n + 1)) = n + 1 by omega, show made - (n + 1) + 1 = made - n by omega,
      decide_eq_true (by omega : made - (n + 1) ≠ made)] at hpage
    rw [State.makeBlanks, hpage, ih (by omega)]

theorem State.makePages_eq (s : State) (i : StreamNo) (ln : ComposedLine) (made : Nat) :
    (s.makeBlanks i ln made).makePage i ln ln.sequence false = s.withOpened i ln made (made + 1) := by
  have hblanks := s.makeBlanks_withOpened i ln (le_refl made)
  have hpage := s.makePage_withOpened i ln made made
  rw [Nat.sub_self, State.withOpened_zero] at hblanks
  rw [Nat.sub_self, BitVec.sub_zero, decide_eq_false (by simp)] at hpage
  rw [hblanks, hpage]

/-! ### The line's own page -/

/-- A page name of those opened is that of the line's page only at its place (R90; serials: log entry 13). -/
theorem State.pageOpened_ref_iff (s : State) (i : StreamNo) (ln : ComposedLine) (made k : Nat) :
    (s.pageOpened i ln made k).ref = (s.pageOpened i ln made made).ref ↔ k = made := by
  refine ⟨fun h => ?_, fun h => by rw [h]⟩
  have hserial : s.pagesOpened + k = s.pagesOpened + made := congrArg PageRef.serial h
  omega

theorem State.openPage_withOpened {s : State} {i : StreamNo} (h : s.openPage i = none) (ln : ComposedLine) (made : Nat) :
    (s.withOpened i ln made (made + 1)).openPage i = some (s.pageOpened i ln made made) := by
  have hblank : ((List.range made).map (s.pageOpened i ln made)).find? (fun p => decide (p.stream = i ∧ p.state = .opened)) = none := by
    rw [List.find?_eq_none]
    intro p hp
    obtain ⟨k, hk, rfl⟩ := List.mem_map.1 hp
    have hne : k ≠ made := (List.mem_range.1 hk).ne
    simp [State.pageOpened, Stream.newPage, hne]
  have hlast : (decide ((s.pageOpened i ln made made).stream = i ∧ (s.pageOpened i ln made made).state = .opened)) = true := by
    simp [State.pageOpened, Stream.newPage]
  unfold State.openPage at h ⊢
  simp only [State.withOpened, State.updStream_pages, List.find?_append, h, List.range_succ, List.map_append, hblank, List.map_cons,
    List.map_nil, List.find?_cons, hlast, Option.none_or]

/-- The pages an arrival adds to the store, the line on its own (R91 to R93, R96). -/
def State.arrivedPages (s : State) (i : StreamNo) (ln : ComposedLine) (made : Nat) : List Page :=
  (List.range (made + 1)).map fun k =>
    if k = made then { s.pageOpened i ln made k with lines := [ln], reservation := ln.length - 1 } else s.pageOpened i ln made k

/-- The line joins the page just opened, and no other (R93). -/
theorem State.updPage_withOpened {s : State} (hbelow : ∀ p ∈ s.pages, p.serial < s.pagesOpened) (i : StreamNo) (ln : ComposedLine)
    (made : Nat) :
    ((s.pages ++ (List.range (made + 1)).map (s.pageOpened i ln made)).map fun q =>
      if q.ref = (s.pageOpened i ln made made).ref then { q with lines := q.lines ++ [ln], reservation := q.reservation - 1 } else q)
      = s.pages ++ s.arrivedPages i ln made := by
  rw [List.map_append, List.map_map]
  congr 1
  · refine (List.map_congr_left fun q hq => if_neg fun e => ?_).trans (List.map_id _)
    have hserial : q.serial = s.pagesOpened + made := congrArg PageRef.serial e
    have := hbelow q hq
    omega
  · refine List.map_congr_left fun k _ => ?_
    simp only [Function.comp_apply, State.pageOpened_ref_iff]
    split
    · next e => rw [e]; simp [State.pageOpened, Stream.newPage]
    · rfl

theorem Stream.passedOver_eq (t : Stream) (ln : ComposedLine) :
    t.passedOver ln = (t.lastLined.map fun last => (ln.sequence - last).toNat - 1).getD 0 := by
  unfold Stream.passedOver
  cases t.lastLined <;> rfl

theorem Stream.blanksFor_eq (t : Stream) (ln : ComposedLine) :
    t.blanksFor ln = if t.attributes.blankForms = .print then min (t.passedOver ln) 16 else 0 := by
  unfold Stream.blanksFor
  cases t.attributes.blankForms <;> rfl

/-- The counting of the forms passed over does not change the pages that open (R96). -/
theorem State.openWith_eq {s : State} {i : StreamNo} (hopen : s.openPage i = none) (hbelow : ∀ p ∈ s.pages, p.serial < s.pagesOpened)
    (ln : ComposedLine) :
    s.openWith i ln =
      ({ s with
        pages := s.pages ++ s.arrivedPages i ln ((s.stream i).blanksFor ln)
        pagesOpened := s.pagesOpened + (s.stream i).blanksFor ln + 1 } : State).updStream i fun u => { u with
          pageCounter := nextPageNumber^[(s.stream i).blanksFor ln + 1] u.pageCounter
          blankFormsCounter := u.blankFormsCounter + BitVec.ofNat 16 ((s.stream i).passedOver ln)
          pageAge := u.ageAtOpen } := by
  unfold State.openWith
  dsimp only
  generalize (s.stream i).blanksFor ln = made
  generalize hc : (s.updStream i fun u => { u with
    blankFormsCounter := u.blankFormsCounter + BitVec.ofNat 16 ((s.stream i).passedOver ln) }) = counted
  have hpage : ∀ k, counted.pageOpened i ln made k = s.pageOpened i ln made k := fun k => by
    rw [← hc]
    unfold State.pageOpened
    rw [State.stream_updStream_self]
    rfl
  have hopened : ((counted.withOpened i ln made (made + 1)).updStream i fun u => { u with pageAge := u.ageAtOpen }).openPage i
      = some (s.pageOpened i ln made made) := by
    have hnone : counted.openPage i = none := by rw [← hc]; exact hopen
    exact (State.openPage_withOpened hnone ln made).trans (congrArg some (hpage made))
  rw [State.makePages_eq, State.appendLine, hopened]
  have hpages : counted.pages ++ (List.range (made + 1)).map (counted.pageOpened i ln made)
      = s.pages ++ (List.range (made + 1)).map (s.pageOpened i ln made) := by
    rw [funext hpage, ← hc, State.updStream_pages]
  have hupd := State.updPage_withOpened hbelow i ln made
  simp only [State.updPage, State.withOpened, State.updStream_pages]
  rw [hpages, hupd, ← hc]
  simp only [State.updStream, Bank.modify_modify]
  rfl

/-! ### The three arrivals -/

theorem State.receiveLine_of_opened {s : State} {i : StreamNo} {p : Page} (hopen : s.openPage i = some p) (ln : ComposedLine) :
    s.receiveLine i ln = (if p.sequence = ln.sequence then s.appendLine i ln else (s.closePage i).openWith i ln).updStream i
      fun u => { u with lastLined := some ln.sequence } := by
  unfold State.receiveLine
  rw [hopen]

theorem State.receiveLine_of_none {s : State} {i : StreamNo} (hopen : s.openPage i = none) (ln : ComposedLine) :
    s.receiveLine i ln = (s.openWith i ln).updStream i fun u => { u with lastLined := some ln.sequence } := by
  unfold State.receiveLine
  rw [hopen]

theorem nextPageNumber_eq : (fun n : Nat => if n < 65535 then n + 1 else 1) = nextPageNumber := by
  funext n
  unfold nextPageNumber
  by_cases h : n < 65535
  · rw [if_pos h, if_neg (by omega)]
  · rw [if_neg h, if_pos (by omega)]

theorem State.length_arrivedPages (s : State) (i : StreamNo) (ln : ComposedLine) (made : Nat) :
    (s.arrivedPages i ln made).length = made + 1 := by
  simp [State.arrivedPages]

/-- The page at place `k`, with every captured value (R92, R96). -/
theorem State.arrivedPages_getElem? (s : State) (i : StreamNo) (ln : ComposedLine) {made k : Nat} (hk : k ≤ made) :
    (s.arrivedPages i ln made)[k]? = some { s.pageOpened i ln made k with
      state := if k = made then .opened else .closed
      lines := if k = made then [ln] else []
      reservation := if k = made then ln.length - 1 else 0 } := by
  have hrange : (List.range (made + 1))[k]? = some k := by rw [List.getElem?_range (by omega)]
  rw [State.arrivedPages, List.getElem?_map, hrange]
  by_cases h : k = made
  · simp [h, State.pageOpened, Stream.newPage]
  · simp [h, State.pageOpened, Stream.newPage]

/-- Settles O33: the three arrivals of R91 are the three cases of the model's own function; the pages opened are those of
`State.arrivedPages`. -/
theorem linesOpenAndFillPages : Obligations.LinesOpenAndFillPages := by
  intro s i ln hs
  obtain ⟨hpages, -⟩ := (State.storeLaw_iff s).1 hs
  dsimp only
  rw [nextPageNumber_eq]
  refine ⟨fun p hopen hseq => ?_, fun p hopen hseq => ?_, fun hopen => ?_⟩
  · rw [State.receiveLine_of_opened hopen, if_pos hseq, State.appendLine, hopen]
  · rw [State.receiveLine_of_opened hopen, if_neg hseq, State.receiveLine_of_none (State.openPage_closePage hpages i)]
  · have hpassed := Stream.passedOver_eq (s.stream i) ln
    have hmade := Stream.blanksFor_eq (s.stream i) ln
    rw [hpassed] at hmade
    rw [← hmade, ← hpassed]
    refine ⟨s.arrivedPages i ln ((s.stream i).blanksFor ln), ?_, s.length_arrivedPages i ln _, fun k hk =>
      ⟨_, s.arrivedPages_getElem? i ln hk, rfl⟩⟩
    rw [State.receiveLine_of_none hopen, State.openWith_eq hopen hpages.below, State.updStream_updStream]
    rfl

end Sys2Proof.Machine
end

section
/-! PURGE (R190): the cancellation of every bound stream as one cancellation, and the discarding of the pages it leaves. -/

namespace Sys2Proof.Machine

/-! ### Every bound stream cancelled -/

/-- The streams of a list that are bound, cancelled one after the other (R190 step 1). -/
theorem State.foldl_cancelBound_cancelled (l : List StreamNo) (hl : l.Nodup) (s : State) :
    Cancelled Stream.cancelled (fun j => decide (j ∈ l) && decide ((s.stream j).binding ≠ none)) s (l.foldl State.cancelBound s) := by
  induction l generalizing s with
  | nil => simpa using Cancelled.nothing _ s
  | cons i l ih =>
    obtain ⟨hi, hl⟩ := List.nodup_cons.1 hl
    have hrest := ih hl (s.cancelBound i)
    rw [List.foldl_cons]
    by_cases hbound : (s.stream i).binding = none
    · have hsame : s.cancelBound i = s := if_pos hbound
      rw [hsame] at hrest ⊢
      refine (congrArg (fun C => Cancelled Stream.cancelled C s _) (funext fun j => ?_)).mp hrest
      by_cases hj : j = i
      · simp [hj, hbound]
      · simp [hj]
    · have hcancel : s.cancelBound i = s.cancelStream i := if_neg hbound
      have hfirst := s.cancelStream_cancelled i
      rw [hcancel] at hrest ⊢
      have hboth := hfirst.trans hrest clears_cancelled fun j hj => by simp [of_decide_eq_true hj, hi]
      refine (congrArg (fun C => Cancelled Stream.cancelled C s _) (funext fun j => ?_)).mp hboth
      by_cases hj : j = i
      · simp [hj, hbound]
      · have hbinding : ((s.cancelStream i).stream j).binding = (s.stream j).binding := by
          rw [hfirst.stream_of_notMem (decide_eq_false hj), Stream.freed_binding]
        simp [hj, hbinding]

/-- The streams that PURGE cancels. -/
def State.bound (s : State) (i : StreamNo) : Bool := decide ((s.stream i).binding ≠ none)

theorem State.cancelBound_all (s : State) : Cancelled Stream.cancelled s.bound s (allStreams.foldl State.cancelBound s) := by
  have hall : ∀ j : StreamNo, j ∈ allStreams := by decide
  have hbound : (fun j => decide (j ∈ allStreams) && decide ((s.stream j).binding ≠ none)) = s.bound := funext fun j => by
    rw [decide_eq_true (hall j), Bool.true_and, State.bound]
  exact hbound ▸ State.foldl_cancelBound_cancelled allStreams (by decide) s

/-! ### Every page discarded -/

/-- The waits of stream `j` that a cancellation and the discarding of every page it leaves end, from `s` to `t` (R82, R83, R128; log
entry 16): a STORE wait and a PIN wait where there was a page at all, and a FENCE wait as the cancellation does. -/
def State.purgeFrees (s : State) (C : StreamNo → Bool) (t : State) (j : StreamNo) : Wait → Bool
  | .store => decide (s.pages ≠ [])
  | .pin _ => decide (s.pages ≠ [])
  | .fence k => s.losesBuffer C k && t.fenceClear j k
  | _ => false

theorem Cancelled.frees_discardAll {after : Stream → Stream} {C : StreamNo → Bool} {s u : State} (h : Cancelled after C s u)
    (j : StreamNo) (w : Wait) :
    (s.cancelFrees C u j w || storeFrees u.pages (fun _ => true) w) = s.purgeFrees C u j w := by
  have hany : (s.pages.any (cancels C) || u.pages.any fun _ => true) = decide (s.pages ≠ []) := by
    rw [h.pages]
    cases s.pages with
    | nil => rfl
    | cons q l => cases hq : cancels C q <;> simp [hq]
  cases w with
  | none => rfl
  | sync => rfl
  | store => exact hany
  | fence k => exact Bool.or_false _
  | pin k =>
    rw [State.purgeFrees, ← hany]
    have hempty : u.pages = [] → u.pinCount k = 0 := fun hnil => by rw [State.pinCount, hnil]; rfl
    cases hpages : u.pages with
    | nil => simp [State.cancelFrees, storeFrees, hempty hpages]
    | cons q l => simp [storeFrees]

/-! ### The honoured PURGE -/

/-- The honoured PURGE after its cancellations (R190). -/
def State.wiped (u : State) : State :=
  State.enterStopped
    { u.discardPages (fun _ => true) with
      taking := none
      recovery := []
      confirm := u.issue
      ring := .replicate 16 none
      stackTimer := none
      buffers := .replicate 2 .free
      offer := []
      cause := .purge }

theorem State.wiped_eq (u : State) :
    u.wiped = { u with
      streams := (u.discardPages fun _ => true).streams
      taking := none
      pages := []
      recovery := []
      confirm := u.issue
      ring := .replicate 16 none
      stackTimer := none
      buffers := .replicate 2 .free
      offer := []
      run := .stopped
      cause := .purge
      ports := u.ports.map fun q => { q with causes := { q.causes with run := true } } } := by
  have hpages : (u.discardPages fun _ => true).pages = [] := by rw [State.discardPages_pages]; simp
  unfold State.wiped
  rw [State.enterStopped_eq, State.discardPages_frame, hpages]

theorem State.stream_wiped (u : State) (j : StreamNo) : u.wiped.stream j = (u.stream j).freed (storeFrees u.pages fun _ => true) := by
  rw [State.wiped_eq]
  exact u.stream_discardPages _ j

theorem State.slot_wiped (u : State) (k : Fin 8) : u.wiped.slot k = u.slot k := by
  rw [State.wiped_eq]
  rfl

theorem State.purgeAll_eq (s : State) : s.purgeAll = (allStreams.foldl State.cancelBound s).wiped := by
  unfold State.purgeAll State.wiped
  generalize allStreams.foldl State.cancelBound s = u
  have hissue : (u.discardPages fun _ => true).issue = u.issue := by rw [State.discardPages_frame]
  rw [← hissue]

/-- A stream after the honoured PURGE. -/
theorem State.stream_purgeAll (s : State) (j : StreamNo) :
    s.purgeAll.stream j =
      if (s.stream j).binding ≠ none then (s.stream j).cancelled else (s.stream j).freed (s.purgeFrees s.bound s.purgeAll j) := by
  have h := s.cancelBound_all
  rw [State.purgeAll_eq]
  generalize allStreams.foldl State.cancelBound s = u at h
  have hclear : ∀ k, u.wiped.fenceClear j k = u.fenceClear j k := fun k =>
    State.fenceClear_congr (fun m => by rw [State.stream_wiped, Stream.freed_buffer]) j k
  have hfrees : s.purgeFrees s.bound u.wiped j = s.purgeFrees s.bound u j := by
    unfold State.purgeFrees
    simp only [hclear]
  rw [State.stream_wiped, hfrees]
  by_cases hbound : (s.stream j).binding ≠ none
  · rw [if_pos hbound, h.stream_of_mem (decide_eq_true hbound)]
    exact Stream.freed_cancelled _ rfl
  · rw [if_neg hbound, h.stream_of_notMem (decide_eq_false hbound), Stream.freed_freed _ rfl]
    exact congrArg (Stream.freed (s.stream j)) (funext (h.frees_discardAll j))

theorem State.slot_purgeAll (s : State) (k : Fin 8) :
    s.purgeAll.slot k = if ∃ i, s.bound i = true ∧ s.openLoad i = some k then { s.slot k with state := .empty } else s.slot k := by
  rw [← s.cancelBound_all.slot k, State.purgeAll_eq, State.slot_wiped]

/-- What the honoured PURGE writes beside the streams and the slots (R104, R147, R190). -/
theorem State.purgeAll_frame (s : State) :
    s.purgeAll = { s with
      streams := s.purgeAll.streams
      overlays := s.purgeAll.overlays
      taking := none
      pages := []
      recovery := []
      confirm := s.issue
      ring := .replicate 16 none
      stackTimer := none
      buffers := .replicate 2 .free
      offer := []
      run := .stopped
      cause := .purge
      ports := s.ports.map fun q => { q with causes := { q.causes with run := true } } } := by
  have hframe := s.cancelBound_all.frame
  rw [State.purgeAll_eq]
  generalize allStreams.foldl State.cancelBound s = u at hframe
  rw [State.wiped_eq, hframe]

theorem State.purge_ignored {s : State} (h : s.run = .run ∨ s.run = .stopping) : s.purge = s := by
  unfold State.purge
  rcases h with h | h <;> rw [h]

theorem State.purge_honoured {s : State} (h : s.run = .stopped ∨ s.run = .check) : s.purge = s.purgeAll := by
  unfold State.purge
  rcases h with h | h <;> rw [h]

/-- Settles O50. -/
theorem purgeClearsTheDevice : Obligations.PurgeClearsTheDevice := by
  intro s
  refine ⟨State.purge_ignored, fun hrun => ⟨s.purgeAll, State.purge_honoured hrun, fun i hi => ?_, fun j hj => ?_, fun k => ?_,
    s.purgeAll_frame⟩⟩
  · rw [s.stream_purgeAll, if_pos hi]
    rfl
  · have hloses : ∀ k, s.losesBuffer s.bound k = true ↔
        ∃ i : StreamNo, (s.stream i).binding ≠ none ∧ ∃ b ∈ (s.stream i).buffer, b.tableSet = k := fun k =>
      (State.losesBuffer_iff _ _ _).trans (exists_congr fun i => and_congr decide_eq_true_iff (Stream.assembles_iff _ _))
    have hstream := s.stream_purgeAll j
    rw [if_neg (not_not.2 hj)] at hstream
    refine ⟨by rw [hstream, Stream.freed_eq], (congrArg Stream.wait hstream).trans ((Stream.freed_wait _ _).trans ?_)⟩
    cases (s.stream j).wait with
    | none => rfl
    | sync => rfl
    | store => by_cases hpages : s.pages = [] <;> simp [State.purgeFrees, hpages]
    | pin k => by_cases hpages : s.pages = [] <;> simp [State.purgeFrees, hpages]
    | fence k => simp only [State.purgeFrees, Bool.and_eq_true, hloses, State.fenceClear_iff_buffer]
  · rw [s.slot_purgeAll]
    simp only [State.bound, decide_eq_true_eq]

end Sys2Proof.Machine
end

section
/-! The space test of a line (R88, R89, R96): what each of its three cases asks of the free records and the line slots. -/

namespace Sys2Proof.Machine

/-- The close of the OPEN page frees the line slots of its reservation, and no others (R88, R94). -/
theorem State.load_closePage {s : State} (h : PagesLaw s.pages s.pagesOpened) {i : StreamNo} {p : Page} (hopen : s.openPage i = some p) :
    ((s.closePage i).pages.map Page.load).sum + p.reservation = (s.pages.map Page.load).sum := by
  obtain ⟨as, bs, hsplit, hupd⟩ := h.split (State.openPage_some hopen).2.2
  rw [State.closePage_pages, hopen]
  dsimp only
  rw [hupd, hsplit]
  simp only [List.map_append, List.map_cons, List.sum_append, List.sum_cons, Page.load]
  omega

theorem State.length_closePage (s : State) (i : StreamNo) : (s.closePage i).pages.length = s.pages.length := by
  rw [State.closePage_pages]
  cases s.openPage i with
  | none => rfl
  | some p => exact List.length_map _

/-- One line is put to the space test alone (R89). -/
theorem State.spaceTest_singleton (s : State) (i : StreamNo) (ln : ComposedLine) : s.spaceTest i [ln] = s.lineFits i ln :=
  Bool.and_true _

theorem State.lineFits_of_none {s : State} {i : StreamNo} (hopen : s.openPage i = none) (ln : ComposedLine) :
    s.lineFits i ln = s.openingFits i ln := by
  rw [State.lineFits, hopen]

theorem State.lineFits_of_some {s : State} {i : StreamNo} {p : Page} (hopen : s.openPage i = some p) (ln : ComposedLine) :
    s.lineFits i ln = if p.sequence = ln.sequence then decide (0 < p.reservation ∨ 1 ≤ s.unreserved)
      else (s.closePage i).openingFits i ln := by
  rw [State.lineFits, hopen]

/-- Settles O34: the unreserved slots are those that neither a line nor a reservation takes up, and the page that the line's opening
closes gives up its reservation. -/
theorem spaceTestOfALine : Obligations.SpaceTestOfALine := by
  unfold Obligations.SpaceTestOfALine
  intro s i ln hs t passed made room
  obtain ⟨hpages, -⟩ := (State.storeLaw_iff s).1 hs
  have hmade : t.blanksFor ln = made := by rw [Stream.blanksFor_eq, Stream.passedOver_eq]
  have hslots : (s.pages.map Page.load).sum ≤ 4096 := hpages.slots
  have hroom : room = 4096 - (s.pages.map Page.load).sum := by rw [s.load_sum, ← Nat.sub_sub]
  refine ⟨rfl, rfl, fun hopen => ?_, fun p hopen => ⟨fun hseq => ?_, fun hseq => ?_⟩⟩
  · rw [State.spaceTest_singleton, State.lineFits_of_none hopen, State.openingFits_iff, hmade, hroom]
    omega
  · rw [State.spaceTest_singleton, State.lineFits_of_some hopen, if_pos hseq, State.unreserved_eq, decide_eq_true_iff, hroom]
    rfl
  · have hload := State.load_closePage hpages hopen
    rw [State.spaceTest_singleton, State.lineFits_of_some hopen, if_neg hseq, State.openingFits_iff, State.closePage_blanksFor,
      State.length_closePage, hmade, hroom]
    omega

end Sys2Proof.Machine
end

section
/-! The marks and the SYNC flag at the Page Store (R97 to R100): the page each stands at, and what happens without one. -/

namespace Sys2Proof.Machine

/-! ### The newest page -/

/-- A stream with no page in the store has no newest one, nor an OPEN one. -/
theorem State.newestPage_of_no_page {s : State} {i : StreamNo} (h : ∀ p ∈ s.pages, p.stream ≠ i) : s.newestPage i = none := by
  rw [State.newestPage, List.getLast?_eq_none_iff]
  exact List.filter_eq_nil_iff.2 fun p hp => by simpa using h p hp

theorem State.openPage_of_no_page {s : State} {i : StreamNo} (h : ∀ p ∈ s.pages, p.stream ≠ i) : s.openPage i = none :=
  State.openPage_none.2 fun p hp hstream => absurd hstream (h p hp)

/-! ### Marks -/

/-- The page a mark attaches to: the OPEN page, or with none open the newest (R97). -/
theorem State.markPage_of_opened {s : State} {i : StreamNo} {p : Page} (h : s.openPage i = some p) : s.markPage i = some p := by
  rw [State.markPage, h]

theorem State.markPage_of_none {s : State} {i : StreamNo} (h : s.openPage i = none) : s.markPage i = s.newestPage i := by
  rw [State.markPage, h]

theorem State.attachMark_of_page {s : State} {i : StreamNo} {p : Page} (h : s.markPage i = some p) (id : Word16) :
    s.attachMark i id = if p.marks.length < 8 then s.updPage p.ref fun q => { q with marks := q.marks ++ [id] }
      else s.countCond i .markOverrun := by
  rw [State.attachMark, h]

theorem State.attachMark_of_no_page {s : State} {i : StreamNo} (h : s.markPage i = none) (id : Word16) :
    s.attachMark i id = s.deliverMark i id 0 (s.stream i).attributes.stacker := by
  rw [State.attachMark, h]

/-- A delivery by the stream's binding (R98, R177). -/
theorem State.deliverMark_of_unbound {s : State} {i : StreamNo} (h : (s.stream i).binding = none) (id : Word16) (n : Nat)
    (k : Stacker) : s.deliverMark i id n k = s := by
  rw [State.deliverMark, h]

theorem State.deliverMark_of_bound {s : State} {i : StreamNo} {p : Port} (h : (s.stream i).binding = some p) (id : Word16) (n : Nat)
    (k : Stacker) :
    s.deliverMark i id n k = (s.updStream i fun t => { t with marksDelivered := t.marksDelivered + 1 }).updPort p
      fun q => q.takeCapture ⟨i, id, n, k, s.sheetsStacked⟩ := by
  rw [State.deliverMark, h]

/-- Settles O36. -/
theorem marksAttachOrAreDelivered : Obligations.MarksAttachOrAreDelivered := by
  unfold Obligations.MarksAttachOrAreDelivered
  intro s i id
  refine ⟨fun p hp => ?_, fun hnone => ?_, fun number k => ⟨fun hunbound => State.deliverMark_of_unbound hunbound id number k,
    fun p hbound => State.deliverMark_of_bound hbound id number k⟩⟩
  · have hpage : s.markPage i = some p := by
      rcases hp with hopen | ⟨hnone, hnewest⟩
      · exact State.markPage_of_opened hopen
      · exact (State.markPage_of_none hnone).trans hnewest
    rw [State.attachMark_of_page hpage]
    exact ⟨fun hfits => if_pos hfits, fun hfull => if_neg (Nat.not_lt.2 hfull)⟩
  · refine State.attachMark_of_no_page ?_ id
    rw [State.markPage_of_none (State.openPage_of_no_page hnone), State.newestPage_of_no_page hnone]

/-! ### SYNC -/

theorem State.syncPages_of_opened {s : State} {i : StreamNo} {p : Page} (h : s.openPage i = some p) :
    s.syncPages i = ((s.closePage i).updPage p.ref fun q => { q with syncPoint := true }).setWait i .sync := by
  rw [State.syncPages, h]

theorem State.syncPages_of_newest {s : State} {i : StreamNo} {p : Page} (hopen : s.openPage i = none)
    (hnewest : s.newestPage i = some p) :
    s.syncPages i = (s.updPage p.ref fun q => { q with syncPoint := true }).setWait i .sync := by
  rw [State.syncPages, hopen, hnewest]

theorem State.syncPages_of_no_page {s : State} {i : StreamNo} (hopen : s.openPage i = none) (hnewest : s.newestPage i = none) :
    s.syncPages i = s.completeSync i := by
  rw [State.syncPages, hopen, hnewest]

/-- Settles O37. -/
theorem syncWaitsForTheNewestPage : Obligations.SyncWaitsForTheNewestPage := by
  unfold Obligations.SyncWaitsForTheNewestPage
  exact fun s i => ⟨fun p hopen => State.syncPages_of_opened hopen, fun hnone =>
    ⟨fun p hnewest => State.syncPages_of_newest hnone hnewest, fun hempty =>
      State.syncPages_of_no_page hnone (State.newestPage_of_no_page hempty)⟩⟩

end Sys2Proof.Machine
end

section
/-! The engine link's issue and confirmation of sheets (R101, R149, R154, R155, R157, R159, R186). -/

namespace Sys2Proof.Machine

/-! ### SHEET -/

theorem State.mayIssue_iff (s : State) :
    s.mayIssue = true ↔ s.run = .run ∧ s.engineReady = true ∧ s.outstanding < s.settings.pathDepth :=
  decide_eq_true_iff

/-- A READY head is the head of the offer order, in the state READY, with its page in the store (R143, R155). -/
theorem State.readyHead_eq_some {s : State} {b : Fin 2} {p : Page} :
    s.readyHead = some (b, p) ↔ s.offer.head? = some b ∧ (s.buffer b).state = .ready ∧ s.bufferPage b = some p := by
  unfold State.readyHead
  cases s.offer with
  | nil => simp
  | cons c rest =>
    dsimp only
    by_cases hready : (s.buffer c).state = .ready
    · simp only [if_pos hready, Option.map_eq_some_iff, Prod.mk.injEq, List.head?_cons, Option.some.injEq]
      constructor
      · rintro ⟨q, hq, rfl, rfl⟩
        exact ⟨rfl, hready, hq⟩
      · rintro ⟨rfl, -, hp⟩
        exact ⟨p, hp, rfl, rfl⟩
    · simp only [if_neg hready, List.head?_cons, Option.some.injEq, reduceCtorEq, false_iff]
      rintro ⟨rfl, hb, -⟩
      exact hready hb

theorem State.issueSheet_of_head {s : State} (hmay : s.mayIssue = true) {b : Fin 2} {p : Page} (hhead : s.readyHead = some (b, p)) :
    s.issueSheet = s.issueFrom b p := by
  rw [State.issueSheet, if_pos hmay, hhead]

/-- Without the conditions of R155 no copy is issued. -/
theorem State.issueSheet_of_not {s : State} (h : ∀ b p, s.mayIssue = true → s.readyHead ≠ some (b, p)) : s.issueSheet = s := by
  unfold State.issueSheet
  split
  · next hmay =>
    split
    · next b p hhead => exact absurd hhead (h b p hmay)
    · rfl
  · rfl

/-- Settles O43. -/
theorem sheetIsIssuedFromTheHead : Obligations.SheetIsIssuedFromTheHead := by
  unfold Obligations.SheetIsIssuedFromTheHead
  intro s may
  refine ⟨s.outstanding_eq, fun hnot => ?_, fun b r p hmay hhead hready hpage hfind => ?_⟩
  · refine congrArg Host.Outcome.next (State.issueSheet_of_not fun b p hmay hhead => hnot ?_)
    obtain ⟨hoffer, hready, -⟩ := State.readyHead_eq_some.1 hhead
    exact ⟨s.mayIssue_iff.1 hmay, b, hoffer, hready⟩
  · obtain ⟨rfl, -⟩ := State.findPage_some hfind
    have hbuffer : s.bufferPage b = some p := by rw [State.bufferPage, hpage]; exact hfind
    exact congrArg Host.Outcome.next
      (State.issueSheet_of_head (s.mayIssue_iff.2 hmay) (State.readyHead_eq_some.2 ⟨hhead, hready, hbuffer⟩))

/-! ### STACKED -/

/-- The confirmation of a copy writes the streams, the ports and the pages alone (R101). -/
theorem State.confirmCopy_frame (s : State) (r : PageRef) :
    s.confirmCopy r = { s with
      streams := (s.confirmCopy r).streams, ports := (s.confirmCopy r).ports, pages := (s.confirmCopy r).pages } := by
  unfold State.confirmCopy
  cases s.findPage r with
  | none => rfl
  | some p =>
    dsimp only
    split
    · rw [State.stackPage_frame]; rfl
    · rfl

theorem State.confirmCopy_of_none {s : State} {r : PageRef} (h : s.findPage r = none) : s.confirmCopy r = s := by
  rw [State.confirmCopy, h]

theorem State.confirmCopy_of_some {s : State} {r : PageRef} {p : Page} (h : s.findPage r = some p) :
    s.confirmCopy r =
      let risen := s.updPage r fun q => { q with copiesStacked := q.copiesStacked + 1 }
      if p.copies ≤ p.copiesStacked + 1 then risen.stackPage p else risen := by
  rw [State.confirmCopy, h]

/-- A STACKED for the oldest outstanding sheet, its data complete, confirms it (R157). -/
theorem State.stackedReport_oldest {s : State} {e : TagEntry} (hsheet : 1 ≤ s.outstanding)
    (hentry : s.ring.get (tagIndex s.confirm) = some e) (hdata : e.dataComplete = true) :
    s.stackedReport s.confirm = s.confirmOldest := by
  have houtstanding : s.isOutstanding s.confirm = true := by
    rw [State.isOutstanding, BitVec.sub_self, decide_eq_true_iff]
    exact hsheet
  have hcomplete : s.dataComplete s.confirm = true := by rw [State.dataComplete, hentry]; exact hdata
  rw [State.stackedReport, if_pos houtstanding, if_pos ⟨rfl, hcomplete⟩]

/-- The state once the confirm counter has passed the oldest sheet, its tag and the total with it (R154, R157). -/
def State.confirmAdvanced (s : State) : State :=
  { s with confirm := s.confirm + 1, ring := s.ring.set (tagIndex s.confirm) none, sheetsStacked := s.sheetsStacked + 1 }

theorem State.outstanding_confirmAdvanced {s : State} (h : 1 ≤ s.outstanding) : s.confirmAdvanced.outstanding = s.outstanding - 1 := by
  have hissue : s.confirmAdvanced.issue = s.issue := rfl
  have hconfirm : s.confirmAdvanced.confirm = s.confirm + 1 := rfl
  unfold State.outstanding at *
  rw [hissue, hconfirm]
  bv_omega

theorem State.confirmOldest_of_entry {s : State} {e : TagEntry} (hentry : s.ring.get (tagIndex s.confirm) = some e) :
    s.confirmOldest =
      let told := s.confirmAdvanced.confirmCopy e.page
      ({ told with stackTimer := if told.outstanding = 0 then none else some told.settings.stackTimeout } : State).testStopped := by
  rw [State.confirmOldest, hentry]
  rfl

/-- The end of STOPPING (R186), as its test finds it. -/
theorem State.testStopped_eq (s : State) :
    s.testStopped =
      if s.outstanding = 0 ∧ s.run = .stopping ∧ s.taking = none then
        { s with run := .stopped, ports := s.ports.map fun q => { q with causes := { q.causes with run := true } } }
      else s := by
  rw [State.testStopped, State.enterStopped_eq]
  refine if_congr ?_ rfl rfl
  rw [State.atRest_iff]
  exact and_left_comm

/-- After the copy is confirmed: the stack timer restarts or stops, and STOPPING may end (R159, R186). -/
def State.confirmEnds (s u : State) : State :=
  let v : State := { u with stackTimer := if s.outstanding = 1 then none else some s.settings.stackTimeout }
  if s.outstanding = 1 ∧ s.run = .stopping ∧ s.taking = none then
    { v with run := .stopped, ports := v.ports.map fun q => { q with causes := { q.causes with run := true } } }
  else v

/-- The report by what its copy's confirmation leaves (R157). -/
theorem State.stackedReport_eq {s : State} {e : TagEntry} (hsheet : 1 ≤ s.outstanding)
    (hentry : s.ring.get (tagIndex s.confirm) = some e) (hdata : e.dataComplete = true) :
    s.stackedReport s.confirm = s.confirmEnds (s.confirmAdvanced.confirmCopy e.page) := by
  rw [State.stackedReport_oldest hsheet hentry hdata, State.confirmOldest_of_entry hentry]
  dsimp only
  generalize htold : s.confirmAdvanced.confirmCopy e.page = told
  have hkept : told.KeepsRest s.confirmAdvanced := htold ▸ State.keepsRest_confirmCopy _ _
  have hsettings : told.settings = s.settings := by rw [← htold, State.confirmCopy_frame]; rfl
  have hrun : told.run = s.run := hkept.run
  have htaking : told.taking = s.taking := hkept.taking
  have hlast : told.outstanding = 0 ↔ s.outstanding = 1 := by
    rw [hkept.outstanding, State.outstanding_confirmAdvanced hsheet]
    omega
  have htimer : (if told.outstanding = 0 then none else some told.settings.stackTimeout)
      = if s.outstanding = 1 then none else some s.settings.stackTimeout := by simp only [hlast, hsettings]
  rw [htimer, State.testStopped_eq]
  exact if_congr (and_congr hlast (by rw [hrun, htaking])) rfl rfl

/-- Settles O45: the three cases are those of the confirmation of a copy. -/
theorem stackedConfirmsTheOldest : Obligations.StackedConfirmsTheOldest := by
  unfold Obligations.StackedConfirmsTheOldest
  intro s e hsheet hentry hdata taken risen timed
  have hreport : exec (.stacked s.confirm) s = .next (timed (taken.confirmCopy e.page)) :=
    congrArg Host.Outcome.next (State.stackedReport_eq hsheet hentry hdata)
  rw [hreport]
  refine ⟨fun hgone => ?_, fun p hfound => ?_⟩
  · rw [State.confirmCopy_of_none (s := taken) hgone]
  · rw [State.confirmCopy_of_some (s := taken) hfound]
    exact ⟨fun hmore => by rw [if_neg (Nat.not_le.2 hmore)], fun hlast => by rw [if_pos hlast]⟩

end Sys2Proof.Machine
end

section
/-! Placement arithmetic and the completion of a rendering (R112 to R116, R120, R141, R142). -/

namespace Sys2Proof.Machine

/-! ### Origins and cell size -/

/-- A whole number of `n` steps among `m`, each `k` long, stays below `s` where `m` steps take at most `s * d` (R115). -/
theorem origin_lt_span {n m k s d : Nat} (hn : n < m) (hk : 0 < k) (hfit : m * k ≤ s * d) : n * k / d < s :=
  Nat.div_lt_of_lt_mul (((Nat.mul_lt_mul_right hk).2 hn).trans_le (hfit.trans_eq (Nat.mul_comm s d)))

section
variable {g : Geometry} {width length : Nat} {pitch : Pitch}

/-- The native horizontal origin (R112). -/
theorem placeX_of_fits (h : 30 * width ≤ g.sx) (p : Nat) : placeX g width p = g.mx + 30 * (p - 1) :=
  if_pos (decide_eq_true h)

/-- The scaled horizontal origin (R113). -/
theorem placeX_of_not_fits (h : g.sx < 30 * width) (p : Nat) : placeX g width p = g.mx + (p - 1) * g.sx / width :=
  if_neg fun hfits => Nat.not_le.2 h (of_decide_eq_true hfits)

/-- The native vertical origin (R114). -/
theorem placeY_of_fits (h : length * 300 ≤ g.sy * pitch.lpi) (l : Nat) :
    placeY g length pitch l = g.my + (l - 1) * 300 / pitch.lpi :=
  if_pos (decide_eq_true h)

/-- The scaled vertical origin (R114). -/
theorem placeY_of_not_fits (h : g.sy * pitch.lpi < length * 300) (l : Nat) :
    placeY g length pitch l = g.my + (l - 1) * g.sy / length :=
  if_neg fun hfits => Nat.not_le.2 h (of_decide_eq_true hfits)

/-- The horizontal bounds of R115: both forms of x(p) share the span between the positions. -/
theorem placeX_bounds (hsx : 0 < g.sx) {p : Nat} (hp : 1 ≤ p) (hle : p ≤ width) :
    g.mx ≤ placeX g width p ∧ placeX g width p < g.mx + g.sx := by
  rcases Nat.lt_or_ge g.sx (30 * width) with h | h
  · have hin : (p - 1) * g.sx / width < g.sx := origin_lt_span (by omega) hsx (Nat.mul_comm width g.sx).le
    rw [placeX_of_not_fits h]
    exact ⟨Nat.le_add_right _ _, Nat.add_lt_add_left hin _⟩
  · rw [placeX_of_fits h]
    omega

/-- The right edge of the last position (R113). -/
theorem placeX_last_le (hwidth : 0 < width) : placeX g width (width + 1) ≤ g.mx + g.sx := by
  rcases Nat.lt_or_ge g.sx (30 * width) with h | h
  · rw [placeX_of_not_fits h, Nat.add_sub_cancel, Nat.mul_div_cancel_left _ hwidth]
  · rw [placeX_of_fits h]
    omega

/-- The vertical bounds of R115. -/
theorem placeY_bounds (hsy : 0 < g.sy) {l : Nat} (hl : 1 ≤ l) (hle : l ≤ length) :
    g.my ≤ placeY g length pitch l ∧ placeY g length pitch l < g.my + g.sy := by
  have hbelow : l - 1 < length := by omega
  rcases Nat.lt_or_ge (g.sy * pitch.lpi) (length * 300) with h | h
  · rw [placeY_of_not_fits h]
    exact ⟨Nat.le_add_right _ _, Nat.add_lt_add_left (origin_lt_span hbelow hsy (Nat.mul_comm length g.sy).le) _⟩
  · rw [placeY_of_fits h]
    exact ⟨Nat.le_add_right _ _, Nat.add_lt_add_left (origin_lt_span hbelow (by decide) h) _⟩

/-- The choice of R116: a horizontal step below 24 columns, or a native or scaled vertical step below 40 rows. -/
theorem chooseCell_eq_condensed :
    chooseCell g length pitch width = .condensed ↔
      g.sx < 24 * width ∨ length * 300 ≤ g.sy * pitch.lpi ∧ 300 < 40 * pitch.lpi ∨
        g.sy * pitch.lpi < length * 300 ∧ g.sy < 40 * length := by
  simp only [chooseCell, fitsDown, decide_eq_true_eq, ite_eq_left_iff, reduceCtorEq, imp_false, not_not, Bool.or_eq_true]
  refine or_congr_right ?_
  by_cases h : length * 300 ≤ g.sy * pitch.lpi
  · simp [h, Nat.not_lt.2 h]
  · simp [h, Nat.not_le.1 h]

/-- At 6 lpi no native line step is below 40 rows; at 8 lpi every native one is, and every scaled one, being shorter. -/
theorem lineStep_below_iff :
    length * 300 ≤ g.sy * pitch.lpi ∧ 300 < 40 * pitch.lpi ∨ g.sy * pitch.lpi < length * 300 ∧ g.sy < 40 * length ↔
      pitch = .eight ∨ g.sy * 6 < length * 300 ∧ g.sy < 40 * length := by
  cases pitch with
  | six => simp [Pitch.lpi]
  | eight => simp [Pitch.lpi]; omega

end

/-- Settles O38. -/
theorem placementOfPositionsAndLines : Obligations.PlacementOfPositionsAndLines := by
  unfold Obligations.PlacementOfPositionsAndLines
  intro g width length pitch hsx hsy hwidth _ lpi
  have hlpi : lpi = pitch.lpi := by cases pitch <;> rfl
  rw [hlpi]
  exact ⟨fun p _ _ => ⟨fun h => placeX_of_fits h p, fun h => placeX_of_not_fits h p⟩,
    fun l _ _ => ⟨fun h => placeY_of_fits h l, fun h => placeY_of_not_fits h l⟩,
    fun p hp hle => placeX_bounds hsx hp hle, fun l hl hle => placeY_bounds hsy hl hle,
    placeX_last_le hwidth, chooseCell_eq_condensed.trans (or_congr_right lineStep_below_iff)⟩

/-! ### The raster -/

section
variable (overlay : List OverlayEntry) (p : Page) (width height : Nat)

theorem renderDots_length : (renderDots overlay p width height).length = height := by simp [renderDots]

theorem renderDots_line_length : ∀ line ∈ renderDots overlay p width height, line.length = width := by
  simp [renderDots]

/-- A dot on the sheet is black where the overlay or the lines are (R141). -/
theorem renderDots_getD {column row : Nat} (hcolumn : column < width) (hrow : row < height) :
    ((renderDots overlay p width height).getD row []).getD column false = pageInk overlay p column row := by
  simp [renderDots, hcolumn, hrow]

end

/-! ### RENDERING_COMPLETE -/

/-- A search over the buffers finds X where X passes, or else Y where Y does. -/
theorem find_allBuffers_eq_some {f : Fin 2 → Bool} {b : Fin 2} :
    allBuffers.find? f = some b ↔ f b = true ∧ (b = 1 → f 0 = false) := by
  unfold allBuffers
  cases hX : f 0 with
  | true => rw [List.find?_cons_of_pos hX]; fin_cases b <;> simp [hX]
  | false => rw [List.find?_cons_of_neg (by simp [hX])]; fin_cases b <;> simp [hX]

theorem State.renderingBuffer_eq_some {s : State} {b : Fin 2} :
    s.renderingBuffer = some b ↔ (s.buffer b).state = .rendering ∧ (b = 1 → (s.buffer 0).state ≠ .rendering) := by
  rw [State.renderingBuffer, find_allBuffers_eq_some, decide_eq_true_eq, decide_eq_false_iff_not]

/-- With no rendering under way nothing completes (log entry 8). -/
theorem State.renderingDone_of_idle {s : State} (h : ∀ b, (s.buffer b).state ≠ .rendering) : s.renderingDone = s := by
  have hnone : s.renderingBuffer = none :=
    Option.eq_none_iff_forall_ne_some.2 fun b hb => h b (State.renderingBuffer_eq_some.1 hb).1
  rw [State.renderingDone, hnone]

theorem State.renderingDone_of_page {s : State} {b : Fin 2} {p : Page} (hb : s.renderingBuffer = some b) (hp : s.bufferPage b = some p) :
    s.renderingDone = s.completeRendering b p := by
  simp only [State.renderingDone, hb, hp]

/-- Settles O41: the dots are those of `renderDots`. -/
theorem renderingCompletes : Obligations.RenderingCompletes := by
  unfold Obligations.RenderingCompletes
  intro s
  refine ⟨fun hidle => congrArg Host.Outcome.next (State.renderingDone_of_idle hidle), ?_⟩
  intro b r p hrendering hfirst hpage hfind raster drawn clipped marked counted
  obtain ⟨rfl, -⟩ := State.findPage_some hfind
  have hbuffer : s.bufferPage b = some p := by rw [State.bufferPage, hpage]; exact hfind
  have hcounted : marked.countIf (clipped && !p.clipped) p.stream .clipped = counted :=
    if_congr (by rw [Bool.and_eq_true, Bool.not_eq_true']) rfl rfl
  have hdone : s.renderingDone
      = counted.setBuffer b { raster with state := .ready, dots := renderDots drawn p raster.width raster.height } := by
    rw [State.renderingDone_of_page (State.renderingBuffer_eq_some.2 ⟨hrendering, hfirst⟩) hbuffer, ← hcounted]
    rfl
  exact ⟨renderDots drawn p raster.width raster.height, congrArg Host.Outcome.next hdone,
    renderDots_length drawn p raster.width raster.height, renderDots_line_length drawn p raster.width raster.height,
    fun column hcolumn row hrow => renderDots_getD drawn p raster.width raster.height hcolumn hrow⟩

end Sys2Proof.Machine
end

section
/-! The takings of the overlay controls (R126 to R130) and the completion of an open load (R131). -/

namespace Sys2Proof.Machine

/-! ### Open loads and the slots under an emission -/

/-- The open load of a stream asks the slots alone (R122). -/
theorem State.openLoad_congr {s t : State} (h : t.overlays = s.overlays) (i : StreamNo) : t.openLoad i = s.openLoad i := by
  have hslot : t.slot = s.slot := funext fun k => by rw [State.slot, State.slot, h]
  rw [State.openLoad, State.openLoad, hslot]

@[simp] theorem State.openLoad_emit_beginGrant (s : State) (i : StreamNo) : ((s.beginGrant i).emit i).openLoad i = s.openLoad i :=
  State.openLoad_congr (by rw [State.emit_frame]; rfl) i

/-! ### OVERLAY BEGIN (R126, R127) -/

/-- R126 step 1: the stream's own open load is abandoned, with OVERLAY SEQUENCE counted where there was one. -/
def State.ownLoadLost (s : State) (i : StreamNo) : State := (s.abandonLoad i).countIf (s.openLoad i).isSome i .overlaySequence

/-- R126 step 2: the stream's OPEN page is closed where it names the slot. -/
def State.ownPageClosed (s : State) (i : StreamNo) (k : Fin 8) : State :=
  match s.openPage i with
  | some p => if p.overlay = some k then s.closePage i else s
  | none => s

/-- The pin test comes after both (R126 step 3). -/
theorem State.beginTest_eq (s : State) (i : StreamNo) (k : Fin 8) :
    s.beginTest i k =
      ((s.ownLoadLost i).ownPageClosed i k,
        if 0 < ((s.ownLoadLost i).ownPageClosed i k).pinCount k then some (.pin k) else none) := by
  unfold State.beginTest
  exact (apply_ite (Prod.mk _) _ _ _).symm

section
variable {s : State} {i j : StreamNo} {k : Fin 8}

theorem State.ownLoadLost_of_none (h : s.openLoad i = none) : s.ownLoadLost i = s := by
  rw [State.ownLoadLost, State.abandonLoad, h]
  rfl

theorem State.ownLoadLost_of_some (h : s.openLoad i = some k) :
    s.ownLoadLost i = (s.updSlot k fun o => { o with state := .empty }).countCond i .overlaySequence := by
  rw [State.ownLoadLost, State.abandonLoad, h]
  rfl

theorem State.ownPageClosed_of_named {p : Page} (hp : s.openPage i = some p) (hk : p.overlay = some k) :
    s.ownPageClosed i k = s.closePage i := by
  simp only [State.ownPageClosed, hp, if_pos hk]

theorem State.ownPageClosed_of_not_named (h : ∀ p, s.openPage i = some p → p.overlay ≠ some k) : s.ownPageClosed i k = s := by
  unfold State.ownPageClosed
  split
  · next p hp => exact if_neg (h p hp)
  · rfl

/-- A slot under no other stream's load is taken, and no condition is counted (R127). -/
theorem State.beginLoad_of_free (h : ∀ j, j ≠ i → (s.slot k).state ≠ .loading j) (declared : Nat) :
    s.beginLoad i k declared = s.updSlot k fun _ => { state := .loading i, entries := [], declared := declared } := by
  unfold State.beginLoad
  split
  · next j hj =>
    have hown : j = i := not_imp_not.1 (h j) hj
    rw [if_pos hown]
  · rfl

/-- A slot under another stream's load is taken from it, with OVERLAY SEQUENCE counted there (R127). -/
theorem State.beginLoad_of_loading (hj : j ≠ i) (h : (s.slot k).state = .loading j) (declared : Nat) :
    s.beginLoad i k declared =
      (s.countCond j .overlaySequence).updSlot k fun _ => { state := .loading i, entries := [], declared := declared } := by
  simp only [State.beginLoad, h, if_neg hj]

end

/-- Settles O30: the states the statement asks for are those of steps 1 and 2 of R126. -/
theorem overlayBeginMeetsThePinTest : Obligations.OverlayBeginMeetsThePinTest := by
  unfold Obligations.OverlayBeginMeetsThePinTest
  intro s i r k declared hgranted hbody e
  have hload : e.openLoad i = s.openLoad i := s.openLoad_emit_beginGrant i
  have hspace : (s.beginGrant i).spaceTest i (s.bufferLine i) = true := by
    have h := hgranted.2
    rwa [State.takingLines, hbody] at h
  have htake : exec .takeOverlayBegin s =
      .next (s.carryOut i r (controlTaking s i (fun v => v.beginTest i k) fun v => v.beginLoad i k declared)) :=
    congrArg Host.Outcome.next (State.take_of_ownKind (a := (k, declared)) hgranted.1 (by rw [hbody]))
  refine ⟨fun u => List.countP_eq_length_filter, e.ownLoadLost i, (e.ownLoadLost i).ownPageClosed i k, fun hnone => ?noLoad,
    fun m hm => ?load, fun p => State.ownPageClosed_of_named, State.ownPageClosed_of_not_named, fun hpinned => ?waits, fun hfree => ?takes⟩
  case noLoad => exact State.ownLoadLost_of_none (hload.trans ((s.openLoad_spec i).1.2 hnone))
  case load => exact State.ownLoadLost_of_some (hload.trans hm)
  case waits =>
    have htest : e.beginTest i k = ((e.ownLoadLost i).ownPageClosed i k, some (.pin k)) := by
      rw [State.beginTest_eq, if_pos (Nat.lt_of_succ_le hpinned)]
    rw [htake, State.carryOut_of_waiting hspace htest]
  case takes =>
    have htest : e.beginTest i k = ((e.ownLoadLost i).ownPageClosed i k, none) := by
      rw [State.beginTest_eq, if_neg (Nat.not_lt.2 hfree.le)]
    rw [htake, State.carryOut_of_passed hspace htest]
    refine ⟨fun hothers => ?_, fun j hj hloading => ?_⟩
    · exact congrArg (fun u : State => Host.Outcome.next (u.finished i r)) (State.beginLoad_of_free hothers declared)
    · exact congrArg (fun u : State => Host.Outcome.next (u.finished i r)) (State.beginLoad_of_loading hj hloading declared)

/-! ### OVERLAY ENTRIES, OVERLAY END and the completion of a load (R129 to R131) -/

section
variable {s : State} {i : StreamNo} {k : Fin 8}

theorem State.addEntries_of_none (h : s.openLoad i = none) (entries : List OverlayEntry) :
    s.addEntries i entries = s.countCond i .overlaySequence := by
  rw [State.addEntries, h]

theorem State.addEntries_of_pinned (h : s.openLoad i = some k) (hpinned : 1 ≤ s.pinCount k) (entries : List OverlayEntry) :
    s.addEntries i entries = s.countCond i .overlaySequence := by
  simp only [State.addEntries, h, if_pos (Nat.lt_of_succ_le hpinned)]

theorem State.addEntries_of_free (h : s.openLoad i = some k) (hfree : s.pinCount k = 0) (entries : List OverlayEntry) :
    s.addEntries i entries =
      let room := (s.slot k).declared - (s.slot k).entries.length
      (s.updSlot k fun o => { o with entries := o.entries ++ entries.take room }).countIf
        (decide (room < entries.length)) i .overlaySequence := by
  simp only [State.addEntries, h, if_neg (Nat.not_lt.2 hfree.le)]

theorem State.endLoad_of_none (h : s.openLoad i = none) : s.endLoad i = s.countCond i .overlaySequence := by
  rw [State.endLoad, h]

theorem State.endLoad_of_some (h : s.openLoad i = some k) : s.endLoad i = s.readySlot i k := by
  rw [State.endLoad, h]

theorem State.completeLoad_of_none (h : s.openLoad i = none) : s.completeLoad i = s := by
  rw [State.completeLoad, h]

theorem State.completeLoad_of_some (h : s.openLoad i = some k) : s.completeLoad i = s.readySlot i k := by
  rw [State.completeLoad, h]

end

/-- Settles O31: neither taking has a control test, so each acts on the state its emission leaves. -/
theorem overlayEntriesAndEndAreTaken : Obligations.OverlayEntriesAndEndAreTaken := by
  unfold Obligations.OverlayEntriesAndEndAreTaken
  refine ⟨?taken, fun s i => ⟨(s.openLoad_spec i).1, (s.openLoad_spec i).2, State.completeLoad_of_none,
    fun k => State.completeLoad_of_some⟩⟩
  intro s i r hgranted e ended
  have hload : e.openLoad i = s.openLoad i := s.openLoad_emit_beginGrant i
  refine ⟨fun entries hbody => ?entries, fun hbody => ?ends⟩
  all_goals have hlines : s.bufferLine i = s.takingLines i r := by rw [State.takingLines, hbody]
  case entries =>
    have htake : exec .takeOverlayEntries s = .next ((e.addEntries i entries).finished i r) :=
      congrArg Host.Outcome.next (State.take_of_untested (a := entries) hgranted (by rw [hbody]) hlines rfl)
    rw [htake]
    refine ⟨fun hnone => ?_, fun k hk => ⟨fun hpinned => ?_, fun hfree => ?_⟩⟩
    · rw [State.addEntries_of_none (hload.trans hnone)]
    · rw [State.addEntries_of_pinned (hload.trans hk) hpinned]
    · rw [State.addEntries_of_free (hload.trans hk) hfree]
  case ends =>
    have htake : exec .takeOverlayEnd s = .next ((e.endLoad i).finished i r) :=
      congrArg Host.Outcome.next (State.take_of_untested (a := ()) hgranted (by rw [hbody]) hlines rfl)
    rw [htake]
    refine ⟨fun hnone => ?_, fun k hk => ?_⟩
    · rw [State.endLoad_of_none (hload.trans hnone)]
    · rw [State.endLoad_of_some (hload.trans hk)]
      rfl

end Sys2Proof.Machine
end

section
/-! The entry lists of the overlay slots (R122, R132) under every command: BEGIN empties a list (R127) and ENTRIES lengthen it (R129), each
where its slot is not pinned; nothing else but power-on writes one. A slot's pins can only have risen when either finds it unpinned. -/

namespace Sys2Proof.Machine

/-! ### Operations that leave the entry lists -/

/-- The entry lists of the eight slots. -/
def State.lists (s : State) : Bank (List OverlayEntry) 8 := s.overlays.map OverlaySlot.entries

theorem State.lists_get (s : State) (k : Fin 8) : s.lists.get k = (s.slot k).entries := Bank.get_map _ _ k

theorem State.lists_congr {s t : State} (h : ∀ k, (t.slot k).entries = (s.slot k).entries) : t.lists = s.lists :=
  Bank.ext_get fun k => by rw [State.lists_get, State.lists_get, h]

theorem State.updSlot_lists_ne (s : State) {k l : Fin 8} (f : OverlaySlot → OverlaySlot) (h : k ≠ l) :
    (s.updSlot k f).lists.get l = s.lists.get l := by
  rw [State.lists_get, State.lists_get, State.slot_updSlot, if_neg h]

/-- A slot whose state alone changes. -/
@[simp] theorem State.updSlot_state_lists (s : State) (k : Fin 8) (x : SlotState) :
    (s.updSlot k fun o => { o with state := x }).lists = s.lists :=
  State.lists_congr fun l => by rw [State.slot_updSlot]; split <;> rfl

@[simp] theorem State.countCond_lists (s : State) (i : StreamNo) (k : Cond) : (s.countCond i k).lists = s.lists := by
  rw [State.countCond_frame]; rfl
@[simp] theorem State.countIf_lists (s : State) (b : Bool) (i : StreamNo) (k : Cond) : (s.countIf b i k).lists = s.lists := by
  rw [State.countIf_frame]; rfl
@[simp] theorem State.deviceCond_lists (s : State) (d : DevCond) : (s.deviceCond d).lists = s.lists := by
  rw [State.deviceCond_eq]; rfl
@[simp] theorem State.testStopped_lists (s : State) : s.testStopped.lists = s.lists := by rw [State.testStopped_frame]; rfl
@[simp] theorem State.stopRequest_lists (s : State) (c : Cause) : (s.stopRequest c).lists = s.lists := by
  rw [State.stopRequest_frame]; rfl
@[simp] theorem State.engineCause_lists (s : State) (c : Cause) : (s.engineCause c).lists = s.lists := by
  rw [State.engineCause_frame]; rfl
@[simp] theorem State.start_lists (s : State) : s.start.lists = s.lists := by rw [State.start_frame]; rfl
@[simp] theorem State.closePage_lists (s : State) (i : StreamNo) : (s.closePage i).lists = s.lists := by
  rw [State.closePage_frame]; rfl
@[simp] theorem State.attachMark_lists (s : State) (i : StreamNo) (id : Word16) : (s.attachMark i id).lists = s.lists := by
  rw [State.attachMark_frame]; rfl
@[simp] theorem State.syncPages_lists (s : State) (i : StreamNo) : (s.syncPages i).lists = s.lists := by
  rw [State.syncPages_frame]; rfl
@[simp] theorem State.emit_lists (s : State) (i : StreamNo) : (s.emit i).lists = s.lists := by rw [State.emit_frame]; rfl
@[simp] theorem State.confirmCopy_lists (s : State) (r : PageRef) : (s.confirmCopy r).lists = s.lists := by
  rw [State.confirmCopy_frame]; rfl
@[simp] theorem State.select_lists (s : State) : s.select.lists = s.lists := by rw [State.select_frame]; rfl
@[simp] theorem State.recover_lists (s : State) : s.recover.lists = s.lists := by rw [State.recover_frame]; rfl
@[simp] theorem State.jamEvent_lists (s : State) (d : DevCond) (c : Cause) : (s.jamEvent d c).lists = s.lists := by
  simp [State.jamEvent]
@[simp] theorem State.readySlot_lists (s : State) (i : StreamNo) (k : Fin 8) : (s.readySlot i k).lists = s.lists := by
  simp [State.readySlot]

@[simp] theorem State.abandonLoad_lists (s : State) (i : StreamNo) : (s.abandonLoad i).lists = s.lists :=
  State.lists_congr fun k => by rw [State.slot_abandonLoad]; split <;> rfl

@[simp] theorem State.completeLoad_lists (s : State) (i : StreamNo) : (s.completeLoad i).lists = s.lists := by
  unfold State.completeLoad
  split
  · rfl
  · exact s.readySlot_lists i _

theorem State.endLoad_lists (s : State) (i : StreamNo) : (s.endLoad i).lists = s.lists := by
  unfold State.endLoad
  split
  · exact s.countCond_lists i _
  · exact s.readySlot_lists i _

/-- Cancellations abandon loads: "the list left as it stands" is only made EMPTY in state (R134). -/
theorem Cancelled.lists {after : Stream → Stream} {C : StreamNo → Bool} {s t : State} (h : Cancelled after C s t) : t.lists = s.lists :=
  State.lists_congr fun k => by rw [h.slot]; split <;> rfl

theorem State.resetPort_lists (s : State) (p : Port) : (s.resetPort p).lists = s.lists := by
  cases h : (s.port p).reset with
  | true => rw [State.resetPort_high h]
  | false =>
    rw [State.resetPort_low h]
    exact (State.foldl_unbindFrom_cancelled p allStreams (by decide) (s.updPort p _)).lists

theorem State.purge_lists (s : State) : s.purge.lists = s.lists := by
  have hall : s.purgeAll.lists = s.lists := State.lists_congr fun k => by rw [State.slot_purgeAll]; split <;> rfl
  unfold State.purge
  split
  · exact hall
  · exact hall
  · rfl
  · rfl

/-! ### Imager, engine and panel -/

theorem State.renderingDone_lists (s : State) : s.renderingDone.lists = s.lists := by
  unfold State.renderingDone
  split
  · rfl
  · split
    · rfl
    · refine (State.countIf_lists _ _ _ _).trans ?_
      split <;> rfl

theorem State.issueSheet_lists (s : State) : s.issueSheet.lists = s.lists := by
  unfold State.issueSheet
  split
  · split <;> rfl
  · rfl

theorem State.sendDone_lists (s : State) : s.sendDone.lists = s.lists := by
  unfold State.sendDone
  split
  · rfl
  · split
    · rfl
    · dsimp only
      split <;> rfl

theorem State.confirmOldest_lists (s : State) : s.confirmOldest.lists = s.lists := by
  refine (State.testStopped_lists _).trans ?_
  split
  · exact State.confirmCopy_lists _ _
  · rfl

theorem State.stackedReport_lists (s : State) (tag : BitVec 4) : (s.stackedReport tag).lists = s.lists := by
  unfold State.stackedReport
  split
  · split
    · exact s.confirmOldest_lists
    · exact s.jamEvent_lists _ _
  · exact s.deviceCond_lists _

theorem State.lossOfReadiness_lists (s : State) (d : DevCond) (c : Cause) : (s.lossOfReadiness d c).lists = s.lists :=
  (State.engineCause_lists _ c).trans (State.deviceCond_lists _ d)

theorem State.numberedReport_lists (s : State) (n : Nat) (d : DevCond) (c : Cause) : (s.numberedReport n d c).lists = s.lists := by
  unfold State.numberedReport
  split
  · exact s.lossOfReadiness_lists d c
  · rfl

theorem State.readyReport_lists (s : State) : s.readyReport.lists = s.lists := by
  unfold State.readyReport
  dsimp only
  split <;> rfl

theorem State.stackTimerExpires_lists (s : State) : s.stackTimerExpires.lists = s.lists := by
  unfold State.stackTimerExpires
  split
  · exact s.jamEvent_lists _ _
  · rfl

theorem State.panelSample_lists (s : State) (r : KeySample) (c : PanelCommand) {effect : State → State}
    (h : ∀ u, (effect u).lists = u.lists) : (s.panelSample r c effect).lists = s.lists := by
  unfold State.panelSample
  split
  · exact h _
  · rfl

/-! ### The gate (R4) -/

theorem State.refuse_lists (s : State) (p : Port) (bytes : List Byte) (r : Reason) : (s.refuse p bytes r).lists = s.lists := by
  show (s.countRefusal p (namedStream bytes) r).lists = s.lists
  unfold State.countRefusal
  split
  · rfl
  · split
    · exact s.countCond_lists _ _
    · rfl

/-- Where the ruling takes the record, the entry lists are `x`. -/
def Ruling.ListsAre (x : Bank (List OverlayEntry) 8) : Ruling → Prop
  | .taken v _ _ => v.lists = x
  | .held => True
  | .refused _ => True

/-- An end event leaves the entry lists where its rule does. -/
theorem State.endEvent_lists {α : Type} (s : State) (row : Row) (p : Port) (operands : Header → Except Reason α)
    (rule : Header → α → State → Ruling) (hrule : ∀ h a u, (rule h a u).ListsAre u.lists) :
    (s.endEvent row p operands rule).lists = s.lists := by
  have hrefuse : ∀ r, ((s.lowerFrame p).refuse p (s.port p).bytes r).lists = s.lists := fun r => State.refuse_lists _ p _ r
  rcases s.endEvent_cases row p operands rule with e | e | ⟨r, -, e⟩ | ⟨h, -, ⟨r, e⟩ | e | ⟨a, u, o, f, ht, e⟩⟩
  · rw [e]
  · rw [e]; rfl
  · exact e ▸ hrefuse r
  · exact e ▸ hrefuse r
  · rw [e]; rfl
  · have htaken := hrule h a (s.lowerFrame p)
    rw [ht.ruled] at htaken
    rw [e]
    exact htaken

/-- A ruling by a test. -/
theorem Ruling.listsAre_ite {c : Prop} [Decidable c] {x : Bank (List OverlayEntry) 8} {a b : Ruling} (ha : a.ListsAre x)
    (hb : b.ListsAre x) : (if c then a else b).ListsAre x := by
  split
  · exact ha
  · exact hb

section
variable (h : Header) (p : Port) (i : StreamNo) (u : State)

theorem queueControl_lists (b : Body) : (queueControl h b u).ListsAre u.lists := Ruling.listsAre_ite trivial rfl

theorem closeRule_lists (a : Unit) : (closeRule h a u).ListsAre u.lists := Ruling.listsAre_ite trivial rfl

theorem printRule_lists (data : List Byte) : (printRule p h data u).ListsAre u.lists :=
  Ruling.listsAre_ite trivial ((State.countIf_lists _ _ _ _).trans (State.countIf_lists _ _ _ _))

theorem senseStreamRule_lists : (senseStreamRule p i u).ListsAre u.lists := Ruling.listsAre_ite rfl trivial

theorem streamOpenRule_lists (g : OpenOperands) : (streamOpenRule p i g u).ListsAre u.lists := by
  unfold streamOpenRule
  split
  · exact Ruling.listsAre_ite trivial rfl
  · exact Ruling.listsAre_ite trivial rfl

theorem streamReleaseRule_lists : (streamReleaseRule i u).ListsAre u.lists := Ruling.listsAre_ite trivial rfl

theorem formLoadRule_lists (k : Fin 4) (form : Form) : (formLoadRule k form u).ListsAre u.lists := Ruling.listsAre_ite trivial rfl

theorem engineSetRule_lists (g : EngineSettings) : (engineSetRule g u).ListsAre u.lists := Ruling.listsAre_ite rfl trivial

end

/-! ### The pins under an emission (R71, R91, R132) -/

/-- The slots that the page records name, page by page: no operation of a taking before its action takes one away. -/
def State.pins (s : State) : List (Option (Fin 8)) := s.pages.map Page.overlay

/-- The pin count of R132 over these names. -/
theorem State.pinCount_eq_count (s : State) (k : Fin 8) : s.pinCount k = s.pins.count (some k) := by
  rw [State.pins, List.count, List.countP_map]
  exact List.countP_congr fun q _ => by simp

theorem State.pinCount_le {s t : State} (h : s.pins.Sublist t.pins) (k : Fin 8) : s.pinCount k ≤ t.pinCount k := by
  rw [State.pinCount_eq_count, State.pinCount_eq_count]
  exact h.count_le _

@[simp] theorem State.updStream_pins (s : State) (i : StreamNo) (f : Stream → Stream) : (s.updStream i f).pins = s.pins := rfl

@[simp] theorem State.reexamineFence_pins (s : State) (k : Fin 2) : (s.reexamineFence k).pins = s.pins := rfl

theorem State.updPage_pins (s : State) (r : PageRef) {f : Page → Page} (hf : ∀ q, (f q).overlay = q.overlay) :
    (s.updPage r f).pins = s.pins := by
  have hname : Page.overlay ∘ (fun q => if q.ref = r then f q else q) = Page.overlay := funext fun q => by
    rw [Function.comp_apply]
    split
    · exact hf q
    · rfl
  rw [State.pins, State.updPage_pages, List.map_map, hname, State.pins]

theorem State.closePage_pins (s : State) (i : StreamNo) : (s.closePage i).pins = s.pins := by
  unfold State.closePage
  split
  · rfl
  · next p _ =>
    have hclosed := s.updPage_pins p.ref (f := fun q => { q with state := .closed, reservation := 0 }) fun _ => rfl
    dsimp only
    split
    · exact hclosed
    · exact hclosed

theorem State.pins_makePage (s : State) (i : StreamNo) (ln : ComposedLine) (n : Word16) (b : Bool) :
    s.pins.Sublist (s.makePage i ln n b).pins :=
  (List.sublist_append_left s.pages _).map Page.overlay

theorem State.pins_makeBlanks (s : State) (i : StreamNo) (ln : ComposedLine) (n : Nat) : s.pins.Sublist (s.makeBlanks i ln n).pins := by
  induction n generalizing s with
  | zero => exact List.Sublist.refl _
  | succ n ih => exact (s.pins_makePage i ln _ true).trans (ih _)

theorem State.appendLine_pins (s : State) (i : StreamNo) (ln : ComposedLine) : (s.appendLine i ln).pins = s.pins := by
  unfold State.appendLine
  split
  · rfl
  · exact s.updPage_pins _ fun _ => rfl

theorem State.pins_openWith (s : State) (i : StreamNo) (ln : ComposedLine) : s.pins.Sublist (s.openWith i ln).pins := by
  unfold State.openWith
  dsimp only
  rw [State.appendLine_pins]
  exact (State.pins_makeBlanks (s.updStream i _) i ln _).trans (State.pins_makePage _ i ln _ false)

theorem State.pins_receiveLine (s : State) (i : StreamNo) (ln : ComposedLine) : s.pins.Sublist (s.receiveLine i ln).pins := by
  unfold State.receiveLine
  dsimp only
  rw [State.updStream_pins]
  split
  · exact s.pins_openWith i ln
  · split
    · rw [State.appendLine_pins]
    · exact s.closePage_pins i ▸ (s.closePage i).pins_openWith i ln

/-- An emission opens pages and takes none away. -/
theorem State.pins_emit (s : State) (i : StreamNo) : s.pins.Sublist (s.emit i).pins := by
  unfold State.emit
  split
  · exact List.Sublist.refl _
  · dsimp only
    rw [State.reexamineFence_pins, State.updStream_pins]
    split
    · exact s.pins_receiveLine i _
    · exact List.Sublist.refl _

end Sys2Proof.Machine
end

section
/-! An overlay slot's entry list does not change while its pin count is above zero (R132): the takings, and then every command. -/

namespace Sys2Proof.Machine

/-! ### What comes before a taking's action, and what an action may do -/

/-- The entry lists of `t` are those of `s`, and every pin of `s` is held. -/
structure State.HoldsPins (t s : State) : Prop where
  lists : t.lists = s.lists
  pins : s.pins.Sublist t.pins

/-- The entry lists of the slots that are pinned in `s` are in `t` as they were. -/
def State.KeepsPinned (t s : State) : Prop := ∀ k, 1 ≤ s.pinCount k → t.lists.get k = s.lists.get k

theorem State.HoldsPins.rfl {s : State} : s.HoldsPins s := ⟨.refl _, List.Sublist.refl _⟩

theorem State.HoldsPins.trans {t u v : State} (h : t.HoldsPins u) (k : u.HoldsPins v) : t.HoldsPins v :=
  ⟨h.lists.trans k.lists, k.pins.trans h.pins⟩

theorem State.HoldsPins.of_pages {t s : State} (hlists : t.lists = s.lists) (hpages : t.pages = s.pages) : t.HoldsPins s :=
  ⟨hlists, by rw [State.pins, State.pins, hpages]⟩

theorem State.KeepsPinned.of_lists {t s : State} (h : t.lists = s.lists) : t.KeepsPinned s := fun k _ => by rw [h]

theorem State.HoldsPins.keepsPinned {t s : State} (h : t.HoldsPins s) : t.KeepsPinned s := .of_lists h.lists

/-- A slot pinned at the grant is pinned still when the action finds it. -/
theorem State.KeepsPinned.after {t u s : State} (h : t.KeepsPinned u) (hu : u.HoldsPins s) : t.KeepsPinned s := fun k hk =>
  (h k (hk.trans (State.pinCount_le hu.pins k))).trans (by rw [hu.lists])

/-- The lists go on as they are. -/
theorem State.KeepsPinned.followed {t u s : State} (h : u.KeepsPinned s) (ht : t.lists = u.lists) : t.KeepsPinned s := fun k hk => by
  rw [ht, h k hk]

theorem State.holdsPins_emit (s : State) (i : StreamNo) : (s.emit i).HoldsPins s := ⟨s.emit_lists i, s.pins_emit i⟩

theorem State.holdsPins_closePage (s : State) (i : StreamNo) : (s.closePage i).HoldsPins s :=
  ⟨s.closePage_lists i, s.closePage_pins i ▸ .refl _⟩

/-! ### The overlay controls (R126, R127, R129) -/

theorem State.holdsPins_ownLoadLost (s : State) (i : StreamNo) : (s.ownLoadLost i).HoldsPins s := by
  refine .of_pages ((State.countIf_lists _ _ i _).trans (s.abandonLoad_lists i)) ?_
  rw [State.ownLoadLost, State.countIf_frame, State.abandonLoad_frame]

theorem State.holdsPins_beginTest (s : State) (i : StreamNo) (k : Fin 8) : (s.beginTest i k).1.HoldsPins s := by
  rw [State.beginTest_eq]
  refine State.HoldsPins.trans ?_ (s.holdsPins_ownLoadLost i)
  show ((s.ownLoadLost i).ownPageClosed i k).HoldsPins (s.ownLoadLost i)
  unfold State.ownPageClosed
  split
  · split
    · exact State.holdsPins_closePage _ i
    · exact .rfl
  · exact .rfl

/-- The pin test passes on a slot without a pin alone (R126 step 3). -/
theorem State.beginTest_passed {s u : State} {i : StreamNo} {k : Fin 8} (h : s.beginTest i k = (u, none)) : u.pinCount k = 0 := by
  rw [State.beginTest_eq, Prod.mk.injEq] at h
  obtain ⟨rfl, hwait⟩ := h
  by_contra hpinned
  rw [if_pos (Nat.pos_of_ne_zero hpinned)] at hwait
  cases hwait

/-- A BEGIN writes the list of the slot it takes alone (R127). -/
theorem State.beginLoad_lists_ne (s : State) (i : StreamNo) (declared : Nat) {k l : Fin 8} (h : k ≠ l) :
    (s.beginLoad i k declared).lists.get l = s.lists.get l := by
  unfold State.beginLoad
  refine (State.updSlot_lists_ne _ _ h).trans ?_
  split
  · split
    · rfl
    · rw [State.countCond_lists]
  · rfl

/-- ENTRIES lengthen the list of a slot that is not pinned alone (R129). -/
theorem State.addEntries_keepsPinned (s : State) (i : StreamNo) (entries : List OverlayEntry) : (s.addEntries i entries).KeepsPinned s := by
  cases hload : s.openLoad i with
  | none => rw [State.addEntries_of_none hload]; exact .of_lists (s.countCond_lists i _)
  | some m =>
    rcases Nat.eq_zero_or_pos (s.pinCount m) with hfree | hpinned
    · rw [State.addEntries_of_free hload hfree]
      intro k hk
      have hne : m ≠ k := by
        rintro rfl
        omega
      dsimp only
      rw [State.countIf_lists]
      exact s.updSlot_lists_ne _ hne
    · rw [State.addEntries_of_pinned hload hpinned]
      exact .of_lists (s.countCond_lists i _)

/-! ### The takings (R63) -/

/-- The steps a kind of record puts into R63 hold the pins, and its action, its tests passed, keeps the pinned lists. -/
structure Taking.KeepsPinned (k : Taking) : Prop where
  before : ∀ u, (k.before u).HoldsPins u
  tests : ∀ u, (k.tests u).1.HoldsPins u
  act : ∀ u v, k.tests u = (v, none) → (k.act v).KeepsPinned v

theorem State.endGrant_lists (s : State) : s.endGrant.lists = s.lists := State.testStopped_lists _

theorem State.finishTaking_lists (s : State) (i : StreamNo) (r : Resolved) : (s.finishTaking i r).lists = s.lists := by
  have hsynced : ((s.dropHead i).actSync i r.sync).lists = s.lists := by
    unfold State.actSync
    split
    · exact (State.syncPages_lists _ i).trans (State.emit_lists _ i)
    · rfl
  unfold State.finishTaking State.actHalt
  refine (State.testStopped_lists _).trans ?_
  split
  · exact (State.stopRequest_lists _ _).trans hsynced
  · exact hsynced

theorem State.carryOut_keepsPinned (s : State) (i : StreamNo) (r : Resolved) {k : Taking} (hk : k.KeepsPinned) :
    (s.carryOut i r k).KeepsPinned s := by
  have hgranted : (s.beginGrant i).HoldsPins s := .of_pages rfl rfl
  have htested : (k.tests (k.before (s.beginGrant i))).1.HoldsPins s := (hk.tests _).trans ((hk.before _).trans hgranted)
  unfold State.carryOut
  dsimp only
  split
  · split
    · exact htested.keepsPinned.followed (State.endGrant_lists _)
    · next hpassed => exact ((hk.act _ _ (Prod.ext rfl hpassed)).after htested).followed (State.finishTaking_lists _ i r)
  · exact .of_lists (State.endGrant_lists _)

theorem State.take_keepsPinned (s : State) {α : Type} (pick : Body → Option α) {kind : State → StreamNo → Resolved → α → Taking}
    (hk : ∀ i r a, (kind s i r a).KeepsPinned) : (s.take pick kind).KeepsPinned s := by
  unfold State.take
  split
  · split
    · exact .of_lists rfl
    · exact s.carryOut_keepsPinned _ _ (hk _ _ _)
  · split
    · split
      · exact .of_lists s.endGrant_lists
      · exact .of_lists rfl
    · exact .of_lists rfl

section
variable (s : State) (i : StreamNo)

theorem printTaking_keepsPinned (r : Resolved) (data : List Byte) : (printTaking s i r data).KeepsPinned where
  before _ := .rfl
  tests _ := .rfl
  act _ v _ := by
    have hstruck : (v.afterStrike i r data).lists = v.lists :=
      (State.countIf_lists _ _ i _).trans ((State.countIf_lists _ _ i _).trans (v.completeLoad_lists i))
    rw [printTaking_act]
    split
    · exact .of_lists ((State.emit_lists _ i).trans hstruck)
    · exact .of_lists hstruck

theorem markTaking_keepsPinned (r : Resolved) (id : Word16) : (markTaking s i r id).KeepsPinned where
  before _ := .rfl
  tests _ := .rfl
  act _ v _ := .of_lists ((State.attachMark_lists _ i id).trans (v.completeLoad_lists i))

theorem closeTaking_keepsPinned : (closeTaking s i).KeepsPinned where
  before u := u.holdsPins_emit i
  tests _ := .rfl
  act _ v _ := .of_lists ((State.closePage_lists _ i).trans (v.completeLoad_lists i))

/-- A queued control with its emission first. -/
theorem controlTaking_keepsPinned {tests : State → State × Option Wait} {act : State → State} (htests : ∀ u, (tests u).1.HoldsPins u)
    (hact : ∀ u v, tests u = (v, none) → (act v).KeepsPinned v) : (controlTaking s i tests act).KeepsPinned :=
  ⟨fun u => u.holdsPins_emit i, htests, hact⟩

/-- A queued control that has no test to pass. -/
theorem controlTaking_noTest_keepsPinned {act : State → State} (hact : ∀ u, (act u).KeepsPinned u) :
    (controlTaking s i noTest act).KeepsPinned :=
  controlTaking_keepsPinned s i (fun _ => .rfl) fun _ v _ => hact v

/-- A table load writes no overlay slot. -/
theorem controlTaking_fence_keepsPinned (k : Fin 2) {act : State → State} (hact : ∀ u, (act u).lists = u.lists) :
    (controlTaking s i (fun u => u.fenceTest i k) act).KeepsPinned :=
  controlTaking_keepsPinned s i
    (fun u => by
      unfold State.fenceTest
      split
      · exact .rfl
      · exact .of_pages rfl rfl)
    fun _ v _ => .of_lists (hact v)

theorem beginTaking_keepsPinned (k : Fin 8) (declared : Nat) :
    (controlTaking s i (fun u => u.beginTest i k) fun u => u.beginLoad i k declared).KeepsPinned :=
  controlTaking_keepsPinned s i (fun u => u.holdsPins_beginTest i k) fun u v hpassed l hl => by
    have hfree := State.beginTest_passed hpassed
    have hne : k ≠ l := by
      rintro rfl
      omega
    exact v.beginLoad_lists_ne i declared hne

end

/-! ### Every command -/

/-- No command but power-on changes the list of a pinned slot; most leave every list. -/
theorem exec_keepsPinned {c : Instr} (hc : c ≠ .powerOnReset) (s : State) : ∃ t, exec c s = .next t ∧ t.KeepsPinned s := by
  have keeps {t : State} (e : exec c s = .next t) (h : t.lists = s.lists) : ∃ t, exec c s = .next t ∧ t.KeepsPinned s :=
    ⟨t, e, .of_lists h⟩
  cases c with
  | powerOnReset => exact absurd rfl hc
  | portReset p => exact keeps rfl (s.resetPort_lists p)
  | resetRelease p | frameRise p | answerReturn p n | byteStrobe p b => exact keeps rfl rfl
  | print p => exact keeps rfl (s.endEvent_lists _ p _ _ fun h data u => printRule_lists h p u data)
  | mark p => exact keeps rfl (s.endEvent_lists _ p _ _ fun h id u => queueControl_lists h u (.mark id))
  | close p => exact keeps rfl (s.endEvent_lists _ p _ _ fun h a u => closeRule_lists h u a)
  | xlateLoad p | pairLoad p | pairClear p | geometryLoad p | streamSet p | overlayBegin p | overlayEntries p | overlayEnd p =>
    exact keeps rfl (s.endEvent_lists _ p _ _ fun h b u => queueControl_lists h u b)
  | senseDevice p | senseMark p | portSet p | formSelect p => exact keeps rfl (s.endEvent_lists _ p _ _ fun _ _ _ => rfl)
  | senseStream p => exact keeps rfl (s.endEvent_lists _ p _ _ fun _ i u => senseStreamRule_lists p i u)
  | streamOpen p => exact keeps rfl (s.endEvent_lists _ p _ _ fun h g u => streamOpenRule_lists p h.stream u g)
  | streamRelease p => exact keeps rfl (s.endEvent_lists _ p _ _ fun h _ u => streamReleaseRule_lists h.stream u)
  | cancel p => exact keeps rfl (s.endEvent_lists _ p _ _ fun h _ u => (u.cancelStream_cancelled h.stream).lists)
  | formLoad p => exact keeps rfl (s.endEvent_lists _ p _ _ fun _ load u => formLoadRule_lists u load.1 load.2)
  | stop p => exact keeps rfl (s.endEvent_lists _ p _ _ fun _ _ u => u.stopRequest_lists _)
  | resume p => exact keeps rfl (s.endEvent_lists _ p _ _ fun _ _ u => u.start_lists)
  | engineSet p => exact keeps rfl (s.endEvent_lists _ p _ _ fun _ g u => engineSetRule_lists u g)
  | takePrint => exact ⟨_, rfl, s.take_keepsPinned _ fun i r data => printTaking_keepsPinned s i r data⟩
  | takeMark => exact ⟨_, rfl, s.take_keepsPinned _ fun i r id => markTaking_keepsPinned s i r id⟩
  | takeClose => exact ⟨_, rfl, s.take_keepsPinned _ fun i _ _ => closeTaking_keepsPinned s i⟩
  | takeXlateLoad =>
    exact ⟨_, rfl, s.take_keepsPinned _ fun i _ load => controlTaking_fence_keepsPinned s i load.1 fun _ => rfl⟩
  | takePairLoad =>
    exact ⟨_, rfl, s.take_keepsPinned _ fun i _ load => controlTaking_fence_keepsPinned s i load.1 fun _ =>
      State.countIf_lists _ _ i _⟩
  | takePairClear => exact ⟨_, rfl, s.take_keepsPinned _ fun i _ k => controlTaking_fence_keepsPinned s i k fun _ => rfl⟩
  | takeGeometryLoad | takeStreamSet =>
    exact ⟨_, rfl, s.take_keepsPinned _ fun i _ _ => controlTaking_noTest_keepsPinned s i fun _ => .of_lists rfl⟩
  | takeOverlayBegin => exact ⟨_, rfl, s.take_keepsPinned _ fun i _ load => beginTaking_keepsPinned s i load.1 load.2⟩
  | takeOverlayEntries =>
    exact ⟨_, rfl, s.take_keepsPinned _ fun i _ entries => controlTaking_noTest_keepsPinned s i fun u =>
      u.addEntries_keepsPinned i entries⟩
  | takeOverlayEnd =>
    exact ⟨_, rfl, s.take_keepsPinned _ fun i _ _ => controlTaking_noTest_keepsPinned s i fun u => .of_lists (u.endLoad_lists i)⟩
  | pageAgeExpiry i => exact keeps rfl rfl
  | selection => exact keeps rfl s.select_lists
  | renderingComplete => exact keeps rfl s.renderingDone_lists
  | sheet => exact keeps rfl s.issueSheet_lists
  | sendComplete => exact keeps rfl s.sendDone_lists
  | ready => exact keeps rfl s.readyReport_lists
  | notReady => exact keeps rfl (s.lossOfReadiness_lists _ _)
  | trayEmpty n | stackerFull n => exact keeps rfl (s.numberedReport_lists n _ _)
  | stacked tag => exact keeps rfl (s.stackedReport_lists tag)
  | jam => exact keeps rfl (s.jamEvent_lists _ _)
  | restarted => exact keeps rfl (State.jamEvent_lists _ _ _)
  | unrecognisedReport code => exact keeps rfl rfl
  | stackTimeout => exact keeps rfl s.stackTimerExpires_lists
  | panelStart k => exact keeps rfl (s.panelSample_lists k _ State.start_lists)
  | panelStop k => exact keeps rfl (s.panelSample_lists k _ fun u => u.stopRequest_lists _)
  | purge k => exact keeps rfl (s.panelSample_lists k _ State.purge_lists)
  | keySample k => exact keeps rfl (s.panelSample_lists k _ fun _ => rfl)

/-- Settles O58. -/
theorem pinnedOverlayListsDoNotChange : Obligations.PinnedOverlayListsDoNotChange := by
  unfold Obligations.PinnedOverlayListsDoNotChange
  intro c s t k hc hpinned ht
  obtain ⟨u, hu, hkept⟩ := exec_keepsPinned hc s
  obtain rfl : u = t := Host.Outcome.next.inj (hu.symm.trans ht)
  rw [← State.lists_get, ← State.lists_get]
  exact hkept k hpinned

end Sys2Proof.Machine
end

section
/-! SELECTION (R137 to R140): the buffer a selection goes to, the page the arbiter chooses, and the one step of R140. -/

namespace Sys2Proof.Machine

/-! ### The buffer (R137) -/

section
variable {s : State} {b : Fin 2} {i : StreamNo} {p : Page}

theorem State.rendererIdle_iff : s.rendererIdle = true ↔ ∀ b, (s.buffer b).state ≠ .rendering := by
  simp [State.rendererIdle, allBuffers, Fin.forall_fin_two]

theorem State.freeBuffer_eq_some :
    s.freeBuffer = some b ↔ (s.buffer b).state = .free ∧ (b = 1 → (s.buffer 0).state ≠ .free) := by
  rw [State.freeBuffer, find_allBuffers_eq_some, decide_eq_true_eq, decide_eq_false_iff_not]

/-! ### The page (R138, R139) -/

/-- A stream's candidate is its first CLOSED page in page order (R139). -/
theorem State.candidate_eq_some :
    s.candidate i = some p ↔
      ∃ before after, s.pages = before ++ p :: after ∧ p.stream = i ∧ p.state = .closed ∧
        ∀ q ∈ before, q.stream = i → q.state ≠ .closed := by
  simp only [State.candidate, List.find?_eq_some_iff_append, decide_eq_true_eq, Bool.not_eq_true', decide_eq_false_iff_not, not_and]
  constructor
  · rintro ⟨⟨hstream, hclosed⟩, before, after, hpages, hbefore⟩
    exact ⟨before, after, hpages, hstream, hclosed, hbefore⟩
  · rintro ⟨before, after, hpages, hstream, hclosed, hbefore⟩
    exact ⟨⟨hstream, hclosed⟩, before, after, hpages, hbefore⟩

theorem State.candidate_of_none_closed (h : ∀ p ∈ s.pages, p.state ≠ .closed) (i : StreamNo) : s.candidate i = none := by
  rw [State.candidate, List.find?_eq_none]
  intro p hp
  simp [h p hp]

/-- The recovery list's head comes first (R138). -/
theorem State.choosePage_of_recovery {r : PageRef} {rest : List PageRef} (hrecovery : s.recovery = r :: rest)
    (hpage : s.findPage r = some p) : s.choosePage = some (p, { s with recovery := rest }) := by
  simp only [State.choosePage, hrecovery, hpage, Option.map_some]

/-- With an empty recovery list, the candidate of the stream that comes first by imaging priority and round robin (R139). -/
theorem State.choosePage_of_candidate (hrecovery : s.recovery = []) (hpage : s.candidate i = some p)
    (hfirst : ∀ j : StreamNo, j ≠ i → (s.candidate j).isSome = true →
      (s.stream i).imagingPriority.val < (s.stream j).imagingPriority.val ∨
        (s.stream i).imagingPriority.val = (s.stream j).imagingPriority.val ∧
          (i.val + 7 - s.imagerPointer.val) % 8 < (j.val + 7 - s.imagerPointer.val) % 8) :
    s.choosePage = some (p, { s with imagerPointer := i }) := by
  have hrobin : roundRobin s.imagerPointer (fun j => (s.candidate j).isSome) (fun j => ((s.stream j).imagingPriority.val : Int))
      = some i := by
    refine (roundRobin_eq_some _ _ _ _).2 ⟨by rw [hpage]; rfl, fun j hj hcandidate => ?_⟩
    simpa only [Int.ofNat_lt, Int.natCast_inj] using hfirst j hj hcandidate
  simp only [State.choosePage, hrecovery, hrobin, hpage, Option.map_some]

theorem State.choosePage_of_none (hrecovery : s.recovery = []) (hclosed : ∀ p ∈ s.pages, p.state ≠ .closed) : s.choosePage = none := by
  have hrobin : roundRobin s.imagerPointer (fun j => (s.candidate j).isSome) (fun j => ((s.stream j).imagingPriority.val : Int))
      = none := (roundRobin_eq_none _ _ _).2 fun j => by rw [State.candidate_of_none_closed hclosed j]; rfl
  simp only [State.choosePage, hrecovery, hrobin]

/-! ### The selection -/

theorem State.select_of_chosen {u : State} (hidle : ∀ b, (s.buffer b).state ≠ .rendering) (hrun : s.run ≠ .stopped)
    (hfree : s.freeBuffer = some b) (hchosen : s.choosePage = some (p, u)) : s.select = u.beginRendering b p := by
  rw [State.select, if_pos ⟨State.rendererIdle_iff.2 hidle, hrun⟩, hfree, hchosen]

/-- No page is chosen, and nothing is selected. -/
theorem State.select_of_no_page (h : s.choosePage = none) : s.select = s := by
  unfold State.select
  rw [h]
  split
  · cases s.freeBuffer <;> rfl
  · rfl

/-- A condition of R137 fails, and nothing is selected. -/
theorem State.select_of_not
    (h : ¬((∀ b, (s.buffer b).state ≠ .rendering) ∧ s.run ≠ .stopped ∧
      ∃ b, (s.buffer b).state = .free ∧ (b = 1 → (s.buffer 0).state ≠ .free))) : s.select = s := by
  unfold State.select
  split
  · next hready =>
    have hnone : s.freeBuffer = none := Option.eq_none_iff_forall_ne_some.2 fun b hb =>
      h ⟨State.rendererIdle_iff.1 hready.1, hready.2, b, State.freeBuffer_eq_some.1 hb⟩
    rw [hnone]
  · rfl

end

/-- Settles O40. -/
theorem selectionTakesTheNextPage : Obligations.SelectionTakesTheNextPage := by
  unfold Obligations.SelectionTakesTheNextPage
  intro s idle free begun candidate number turn
  have hbegun : ∀ u b p, u.beginRendering b p = begun u b p := fun _ _ _ => rfl
  refine ⟨fun hnot => congrArg Host.Outcome.next (State.select_of_not hnot),
    fun hrecovery hclosed => congrArg Host.Outcome.next (State.select_of_no_page (State.choosePage_of_none hrecovery hclosed)),
    fun b hidle hrun hfree => ⟨fun r rest p hrecovery hpage => ?recovery, fun i p hrecovery hpage hfirst => ?candidate⟩⟩
  all_goals have hbuffer : s.freeBuffer = some b := State.freeBuffer_eq_some.2 hfree
  case recovery =>
    have hchosen := State.choosePage_of_recovery hrecovery hpage
    rw [← hbegun]
    exact congrArg Host.Outcome.next (State.select_of_chosen hidle hrun hbuffer hchosen)
  case candidate =>
    have hchosen := State.choosePage_of_candidate hrecovery (State.candidate_eq_some.2 hpage) fun j hj hcandidate => by
      obtain ⟨q, hq⟩ := Option.isSome_iff_exists.1 hcandidate
      exact hfirst j hj ⟨q, State.candidate_eq_some.1 hq⟩
    rw [← hbegun]
    exact congrArg Host.Outcome.next (State.select_of_chosen hidle hrun hbuffer hchosen)

end Sys2Proof.Machine
end

section
/-! The engine law (R144, R154, R184): a SENDING buffer has its copy outstanding, so in STOPPED it is enough that no sheet is outstanding;
and that the run state becomes STOPPED only at rest (R186). What the law reads is written by the imager and the engine link alone. -/

namespace Sys2Proof.Machine

/-! ### The law in its parts -/

/-- The engine law but for its part on STOPPED. -/
structure State.LinkLaw (s : State) : Prop where
  path : s.PathLaw
  sending : s.SendingLaw

/-- With nothing outstanding nothing is SENDING (R144), so the last part of R184 follows from the one before it. -/
theorem State.engineLaw_iff (s : State) : s.EngineLaw ↔ s.LinkLaw ∧ (s.run = .stopped → s.outstanding = 0) := by
  refine ⟨fun ⟨hpath, hsending, hstopped⟩ => ⟨⟨hpath, hsending⟩, fun hrun => (hstopped hrun).1⟩,
    fun ⟨⟨hpath, hsending⟩, hstopped⟩ => ⟨hpath, hsending, fun hrun => ⟨hstopped hrun, fun b hb => ?_⟩⟩⟩
  obtain ⟨-, houtstanding, -⟩ := hsending b hb
  rw [hstopped hrun] at houtstanding
  cases houtstanding

theorem State.LinkLaw.engineLaw {s : State} (hs : s.LinkLaw) (hrun : s.run ≠ .stopped) : s.EngineLaw :=
  s.engineLaw_iff.2 ⟨hs, fun h => absurd h hrun⟩

/-- What the law reads beside the run state is as it was, and STOPPED was entered, if at all, with nothing outstanding. -/
structure State.KeepsLink (t s : State) : Prop where
  frame : t = { t with
    settings := s.settings, issue := s.issue, confirm := s.confirm, ring := s.ring, buffers := s.buffers, offer := s.offer }
  stopped : t.run = .stopped → s.run = .stopped ∨ s.outstanding = 0

theorem State.KeepsLink.rfl {s : State} : s.KeepsLink s := ⟨.refl _, .inl⟩

theorem State.KeepsLink.outstanding {t s : State} (h : t.KeepsLink s) : t.outstanding = s.outstanding := by
  rw [h.frame]
  exact .refl _

theorem State.KeepsLink.trans {t u v : State} (h : t.KeepsLink u) (k : u.KeepsLink v) : t.KeepsLink v where
  frame := by rw [h.frame, k.frame]
  stopped hrun := (h.stopped hrun).elim k.stopped fun hnone => .inr (k.outstanding ▸ hnone)

theorem State.KeepsLink.engineLaw {t s : State} (h : t.KeepsLink s) (hs : s.EngineLaw) : t.EngineLaw := by
  rw [State.engineLaw_iff] at hs ⊢
  obtain ⟨hlink, hstopped⟩ := hs
  refine ⟨?_, fun hrun => ?_⟩
  · rw [h.frame]
    exact ⟨hlink.path, hlink.sending⟩
  · rw [h.outstanding]
    exact (h.stopped hrun).elim hstopped id

/-- A change elsewhere than in what the law reads. -/
theorem State.KeepsLink.of_frame {t s : State}
    (h : t = { t with
      settings := s.settings, issue := s.issue, confirm := s.confirm, ring := s.ring, buffers := s.buffers, offer := s.offer
      run := s.run }) : t.KeepsLink s := by
  rw [h]
  exact ⟨.refl _, .inl⟩

/-! ### Conditions and the run state (R164, R185 to R187) -/

section
variable (s : State)

theorem State.keepsLink_countIf (b : Bool) (i : StreamNo) (k : Cond) : (s.countIf b i k).KeepsLink s :=
  .of_frame (by rw [State.countIf_frame])

theorem State.keepsLink_countCond (i : StreamNo) (k : Cond) : (s.countCond i k).KeepsLink s := s.keepsLink_countIf true i k

theorem State.keepsLink_deviceCond (d : DevCond) : (s.deviceCond d).KeepsLink s := .of_frame (by rw [State.deviceCond_eq])

/-- The test of R186 enters STOPPED with nothing outstanding. -/
theorem State.keepsLink_testStopped : s.testStopped.KeepsLink s := by
  rw [State.testStopped_eq]
  split
  · next h => exact ⟨rfl, fun _ => .inr h.1⟩
  · exact .rfl

/-- So does a stop request (R185). -/
theorem State.keepsLink_stopRequest (c : Cause) : (s.stopRequest c).KeepsLink s := by
  unfold State.stopRequest
  cases s.run with
  | run => exact (State.keepsLink_testStopped _).trans ⟨rfl, nofun⟩
  | stopping => exact .rfl
  | stopped => exact .rfl
  | check =>
    dsimp only
    split
    · next hrest =>
      rw [State.enterStopped_eq]
      exact ⟨rfl, fun _ => .inr (s.atRest_iff.1 hrest).1⟩
    · exact ⟨rfl, nofun⟩

/-- A start leads to RUN, or leaves the state (R187). -/
theorem State.keepsLink_start : s.start.KeepsLink s := by
  unfold State.start
  cases s.run with
  | run => exact .rfl
  | stopping => exact ⟨rfl, nofun⟩
  | stopped => exact ⟨rfl, nofun⟩
  | check =>
    dsimp only
    split
    · exact ⟨rfl, nofun⟩
    · exact .rfl

/-- An engine cause leads to CHECK, or leaves the run state (R164). -/
theorem State.keepsLink_engineCause (c : Cause) : (s.engineCause c).KeepsLink s := by
  have hchecked : ({ s with run := .check, cause := c }.joinBoth .run).KeepsLink s := by
    rw [State.joinBoth_eq]
    exact ⟨rfl, nofun⟩
  unfold State.engineCause
  cases s.run with
  | run => exact hchecked
  | stopping => exact hchecked
  | stopped => exact .rfl
  | check =>
    dsimp only
    split
    · exact .rfl
    · exact ⟨rfl, nofun⟩

theorem State.keepsLink_lossOfReadiness (d : DevCond) (c : Cause) : (s.lossOfReadiness d c).KeepsLink s :=
  (State.keepsLink_engineCause _ c).trans ((State.keepsLink_deviceCond _ d).trans (.of_frame rfl))

theorem State.keepsLink_numberedReport (n : Nat) (d : DevCond) (c : Cause) : (s.numberedReport n d c).KeepsLink s := by
  unfold State.numberedReport
  split
  · exact s.keepsLink_lossOfReadiness d c
  · exact .rfl

theorem State.keepsLink_readyReport : s.readyReport.KeepsLink s := by
  unfold State.readyReport
  dsimp only
  split
  · exact ⟨rfl, nofun⟩
  · exact .of_frame rfl

theorem State.keepsLink_makeGrant : s.makeGrant.KeepsLink s := by
  unfold State.makeGrant
  split
  · exact .of_frame rfl
  · exact .rfl

theorem Cancelled.keepsLink {after : Stream → Stream} {C : StreamNo → Bool} {t : State} (h : Cancelled after C s t) : t.KeepsLink s :=
  .of_frame (by rw [h.frame])

theorem State.keepsLink_resetPort (p : Port) : (s.resetPort p).KeepsLink s := by
  cases h : (s.port p).reset with
  | true => rw [State.resetPort_high h]; exact .rfl
  | false =>
    rw [State.resetPort_low h]
    exact (State.foldl_unbindFrom_cancelled p allStreams (by decide) _).keepsLink.trans (.of_frame rfl)

/-! ### The takings (R63) -/

theorem State.keepsLink_emit (i : StreamNo) : (s.emit i).KeepsLink s := .of_frame (by rw [State.emit_frame])

theorem State.keepsLink_closePage (i : StreamNo) : (s.closePage i).KeepsLink s := .of_frame (by rw [State.closePage_frame])

theorem State.keepsLink_attachMark (i : StreamNo) (id : Word16) : (s.attachMark i id).KeepsLink s :=
  .of_frame (by rw [State.attachMark_frame])

theorem State.keepsLink_completeLoad (i : StreamNo) : (s.completeLoad i).KeepsLink s := .of_frame (by rw [State.completeLoad_frame])

theorem State.keepsLink_fenceTest (i : StreamNo) (k : Fin 2) : (s.fenceTest i k).1.KeepsLink s := by
  unfold State.fenceTest
  split
  · exact .rfl
  · exact .of_frame rfl

theorem State.keepsLink_beginTest (i : StreamNo) (k : Fin 8) : (s.beginTest i k).1.KeepsLink s := by
  have hlost : (s.ownLoadLost i).KeepsLink s := (State.keepsLink_countIf _ _ i _).trans (.of_frame (by rw [State.abandonLoad_frame]))
  rw [State.beginTest_eq]
  refine State.KeepsLink.trans ?_ hlost
  show ((s.ownLoadLost i).ownPageClosed i k).KeepsLink (s.ownLoadLost i)
  unfold State.ownPageClosed
  split
  · split
    · exact State.keepsLink_closePage _ i
    · exact .rfl
  · exact .rfl

theorem State.keepsLink_beginLoad (i : StreamNo) (k : Fin 8) (n : Nat) : (s.beginLoad i k n).KeepsLink s := by
  unfold State.beginLoad
  refine State.KeepsLink.trans (.of_frame rfl) ?_
  split
  · split
    · exact .rfl
    · exact s.keepsLink_countCond _ _
  · exact .rfl

theorem State.keepsLink_addEntries (i : StreamNo) (entries : List OverlayEntry) : (s.addEntries i entries).KeepsLink s := by
  unfold State.addEntries
  split
  · exact s.keepsLink_countCond i _
  · split
    · exact s.keepsLink_countCond i _
    · exact (State.keepsLink_countIf _ _ _ _).trans (.of_frame rfl)

theorem State.keepsLink_endLoad (i : StreamNo) : (s.endLoad i).KeepsLink s := by
  unfold State.endLoad
  split
  · exact s.keepsLink_countCond i _
  · exact (State.keepsLink_countIf _ _ _ _).trans (.of_frame rfl)

theorem State.keepsLink_endGrant : s.endGrant.KeepsLink s := (State.keepsLink_testStopped _).trans (.of_frame rfl)

theorem State.keepsLink_finishTaking (i : StreamNo) (r : Resolved) : (s.finishTaking i r).KeepsLink s := by
  have hsynced : ({ (s.dropHead i).actSync i r.sync with taking := none } : State).KeepsLink s := by
    unfold State.actSync
    split
    · exact State.KeepsLink.trans (.of_frame (by rw [State.syncPages_frame])) ((State.keepsLink_emit _ i).trans (.of_frame rfl))
    · exact .of_frame rfl
  unfold State.finishTaking State.actHalt
  refine (State.keepsLink_testStopped _).trans ?_
  split
  · exact (State.keepsLink_stopRequest _ _).trans hsynced
  · exact hsynced

end

/-- The steps a kind of record puts into R63 keep what the engine law reads. -/
structure Taking.KeepsLink (k : Taking) : Prop where
  before : ∀ u, (k.before u).KeepsLink u
  tests : ∀ u, (k.tests u).1.KeepsLink u
  act : ∀ u, (k.act u).KeepsLink u

theorem State.keepsLink_carryOut (s : State) (i : StreamNo) (r : Resolved) {k : Taking} (hk : k.KeepsLink) :
    (s.carryOut i r k).KeepsLink s := by
  have hgranted : (s.beginGrant i).KeepsLink s := .of_frame rfl
  have htested := (hk.tests _).trans ((hk.before _).trans hgranted)
  have hwaiting : ∀ (u : State) w, u.KeepsLink s → (u.endWaiting i w).KeepsLink s := fun u w hu =>
    (State.keepsLink_endGrant _).trans (State.KeepsLink.trans (.of_frame rfl) hu)
  unfold State.carryOut
  dsimp only
  split
  · split
    · exact hwaiting _ _ htested
    · exact (State.keepsLink_finishTaking _ i r).trans ((hk.act _).trans htested)
  · exact hwaiting _ _ hgranted

theorem State.keepsLink_take (s : State) {α : Type} (pick : Body → Option α) {kind : State → StreamNo → Resolved → α → Taking}
    (hk : ∀ i r a, (kind s i r a).KeepsLink) : (s.take pick kind).KeepsLink s := by
  unfold State.take
  split
  · split
    · exact .rfl
    · exact s.keepsLink_carryOut _ _ (hk _ _ _)
  · split
    · split
      · exact s.keepsLink_endGrant
      · exact .rfl
    · exact .rfl

section
variable (s : State) (i : StreamNo)

theorem printTaking_keepsLink (r : Resolved) (data : List Byte) : (printTaking s i r data).KeepsLink where
  before _ := .rfl
  tests _ := .rfl
  act u := by
    have hstruck : (u.afterStrike i r data).KeepsLink u :=
      (State.keepsLink_countIf _ _ i _).trans <| (State.keepsLink_countIf _ _ i _).trans <|
        State.KeepsLink.trans (.of_frame rfl) (u.keepsLink_completeLoad i)
    rw [printTaking_act]
    split
    · exact (State.keepsLink_emit _ i).trans hstruck
    · exact hstruck

theorem markTaking_keepsLink (r : Resolved) (id : Word16) : (markTaking s i r id).KeepsLink where
  before _ := .rfl
  tests _ := .rfl
  act u := (State.keepsLink_attachMark _ i id).trans (u.keepsLink_completeLoad i)

theorem closeTaking_keepsLink : (closeTaking s i).KeepsLink where
  before u := u.keepsLink_emit i
  tests _ := .rfl
  act u := (State.keepsLink_closePage _ i).trans (u.keepsLink_completeLoad i)

/-- A queued control with its emission first. -/
theorem controlTaking_keepsLink {tests : State → State × Option Wait} {act : State → State} (htests : ∀ u, (tests u).1.KeepsLink u)
    (hact : ∀ u, (act u).KeepsLink u) : (controlTaking s i tests act).KeepsLink :=
  ⟨fun u => u.keepsLink_emit i, htests, hact⟩

end

/-! ### Records at the gate (R4) -/

theorem State.keepsLink_refuse (s : State) (p : Port) (bytes : List Byte) (r : Reason) : (s.refuse p bytes r).KeepsLink s := by
  refine State.KeepsLink.trans (.of_frame rfl) (u := s.countRefusal p (namedStream bytes) r) ?_
  unfold State.countRefusal
  split
  · exact .rfl
  · split
    · exact s.keepsLink_countCond _ _
    · exact .rfl

/-- An end event keeps the engine law where the rule of its row does, for the records it takes (R4). -/
theorem State.endEvent_engineLaw {α : Type} {s : State} (hs : s.EngineLaw) (row : Row) (p : Port)
    (operands : Header → Except Reason α) (rule : Header → α → State → Ruling)
    (hrule : ∀ h a u v o f, u.EngineLaw → operands h = .ok a → rule h a u = .taken v o f → v.EngineLaw) :
    (s.endEvent row p operands rule).EngineLaw := by
  have hlow : (s.lowerFrame p).EngineLaw := State.KeepsLink.engineLaw (.of_frame rfl) hs
  have hanswer : ∀ (u : State) a o f, u.EngineLaw → (u.answer p a o f).EngineLaw := fun _ _ _ _ =>
    State.KeepsLink.engineLaw (.of_frame rfl)
  have hrefuse : ∀ r, ((s.lowerFrame p).refuse p (s.port p).bytes r).EngineLaw := fun r =>
    (State.keepsLink_refuse _ p _ r).engineLaw hlow
  rcases s.endEvent_cases row p operands rule with e | e | ⟨r, -, e⟩ | ⟨h, -, ⟨r, e⟩ | e | ⟨a, u, o, f, ht, e⟩⟩
  · rwa [e]
  · exact e ▸ hlow
  · exact e ▸ hrefuse r
  · exact e ▸ hrefuse r
  · exact e ▸ hanswer _ _ _ _ hlow
  · have hcounted : (u.countTaken h.stream).KeepsLink u := .of_frame rfl
    exact e ▸ hanswer _ _ _ _ (hcounted.engineLaw (hrule h a _ u o f hlow ht.read ht.ruled))

/-- Where the ruling takes the record, what the engine law reads is as in `u`. -/
def Ruling.KeepsLink (u : State) : Ruling → Prop
  | .taken v _ _ => v.KeepsLink u
  | .held => True
  | .refused _ => True

/-- A ruling by a test. -/
theorem Ruling.keepsLink_ite {c : Prop} [Decidable c] {u : State} {a b : Ruling} (ha : a.KeepsLink u) (hb : b.KeepsLink u) :
    (if c then a else b).KeepsLink u := by
  split
  · exact ha
  · exact hb

section
variable (h : Header) (p : Port) (i : StreamNo) (u : State)

theorem queueControl_keepsLink (b : Body) : (queueControl h b u).KeepsLink u := Ruling.keepsLink_ite trivial (.of_frame rfl)

theorem closeRule_keepsLink (a : Unit) : (closeRule h a u).KeepsLink u := Ruling.keepsLink_ite trivial (.of_frame rfl)

theorem printRule_keepsLink (data : List Byte) : (printRule p h data u).KeepsLink u :=
  Ruling.keepsLink_ite trivial <|
    (State.keepsLink_countIf _ _ _ _).trans <| (State.keepsLink_countIf _ _ _ _).trans <| .of_frame rfl

theorem senseStreamRule_keepsLink : (senseStreamRule p i u).KeepsLink u := Ruling.keepsLink_ite (.of_frame rfl) trivial

theorem streamOpenRule_keepsLink (g : OpenOperands) : (streamOpenRule p i g u).KeepsLink u := by
  unfold streamOpenRule
  split
  · exact Ruling.keepsLink_ite trivial (.of_frame rfl)
  · exact Ruling.keepsLink_ite trivial (.of_frame rfl)

theorem streamReleaseRule_keepsLink : (streamReleaseRule i u).KeepsLink u := Ruling.keepsLink_ite trivial (.of_frame rfl)

theorem formLoadRule_keepsLink (k : Fin 4) (form : Form) : (formLoadRule k form u).KeepsLink u :=
  Ruling.keepsLink_ite trivial (.of_frame rfl)

end

/-- The path depth an ENGINE SET carries is brought into 1 to 6 (R152). -/
theorem readEngineSet_pathDepth {data : List Byte} {g : EngineSettings} (h : readEngineSet data = .ok g) :
    1 ≤ g.pathDepth ∧ g.pathDepth ≤ 6 := by
  unfold readEngineSet at h
  split at h
  · split at h
    · cases h
      simp only [clamp]
      omega
    · cases h
  · cases h

/-- The path depth changes only in STOPPED, where no sheet is outstanding (R153). -/
theorem engineSetRule_engineLaw {g : EngineSettings} {u v : State} {o : Bool} {f : List Byte} (hu : u.EngineLaw)
    (hdepth : 1 ≤ g.pathDepth ∧ g.pathDepth ≤ 6) (e : engineSetRule g u = .taken v o f) : v.EngineLaw := by
  unfold engineSetRule at e
  split at e
  · next hrun =>
    cases e
    obtain ⟨hlink, hstopped⟩ := u.engineLaw_iff.1 hu
    have hnone : u.outstanding = 0 := hstopped hrun
    have hwithin : u.outstanding ≤ g.pathDepth := hnone ▸ Nat.zero_le _
    exact (State.engineLaw_iff _).2 ⟨⟨⟨hdepth.1, hdepth.2, hwithin⟩, hlink.sending⟩, fun _ => hnone⟩
  · cases e

/-! ### The imager (R140, R142) -/

/-- A buffer is put into a state that is not SENDING, and the offer order keeps its head. -/
theorem State.EngineLaw.setQuiet {s : State} (hs : s.EngineLaw) (b : Fin 2) {r : Raster} (hr : r.state ≠ .sending)
    {offer : List (Fin 2)} (hoffer : ∀ c, s.offer.head? = some c → offer.head? = some c) :
    ({ s.setBuffer b r with offer := offer } : State).EngineLaw := by
  obtain ⟨hlink, hstopped⟩ := s.engineLaw_iff.1 hs
  refine (State.engineLaw_iff _).2 ⟨⟨hlink.path, fun c hc => ?_⟩, hstopped⟩
  replace hc : ((s.setBuffer b r).buffer c).state = .sending := hc
  rw [State.buffer_setBuffer] at hc
  split at hc
  · exact absurd hc hr
  · obtain ⟨hhead, hnewest⟩ := hlink.sending c hc
    exact ⟨hoffer c hhead, hnewest⟩

theorem State.choosePage_keepsLink {s u : State} {p : Page} (h : s.choosePage = some (p, u)) : u.KeepsLink s := by
  unfold State.choosePage at h
  split at h
  · obtain ⟨q, -, e⟩ := Option.map_eq_some_iff.1 h
    cases e
    exact .of_frame rfl
  · split at h
    · obtain ⟨q, -, e⟩ := Option.map_eq_some_iff.1 h
      cases e
      exact .of_frame rfl
    · cases h

theorem State.select_engineLaw {s : State} (hs : s.EngineLaw) : s.select.EngineLaw := by
  unfold State.select
  split
  · split
    · next b p u _ hchosen =>
      have hu : (u.updPage p.ref fun q => { q with state := .imaging }).EngineLaw :=
        State.KeepsLink.engineLaw (.of_frame rfl) ((State.choosePage_keepsLink hchosen).engineLaw hs)
      refine hu.setQuiet b (by nofun) fun c hc => ?_
      rw [List.head?_append, show u.offer.head? = some c from hc]
      rfl
    · exact hs
  · exact hs

theorem State.renderingDone_engineLaw {s : State} (hs : s.EngineLaw) : s.renderingDone.EngineLaw := by
  unfold State.renderingDone
  split
  · exact hs
  · next b _ =>
    split
    · exact hs
    · next p _ =>
      unfold State.completeRendering
      have hcounted : ∀ (m : State) clips, m.KeepsLink s → (m.countIf clips p.stream .clipped).EngineLaw := fun m clips hm =>
        ((m.keepsLink_countIf clips p.stream .clipped).trans hm).engineLaw hs
      refine State.EngineLaw.setQuiet (hcounted _ _ ?_) b (by nofun) fun _ => id
      split
      · exact .of_frame rfl
      · exact .rfl

/-! ### Issue and sending (R144, R155, R156) -/

/-- A copy is issued from the READY head, so no other buffer is SENDING (R144), and below the path depth (R155). -/
theorem State.issueSheet_engineLaw {s : State} (hs : s.EngineLaw) : s.issueSheet.EngineLaw := by
  unfold State.issueSheet
  split
  case isFalse => exact hs
  case isTrue hmay =>
    split
    case h_2 => exact hs
    case h_1 b p hready =>
      obtain ⟨hrun, -, hdepth⟩ := s.mayIssue_iff.1 hmay
      obtain ⟨hhead, hready, -⟩ := State.readyHead_eq_some.1 hready
      obtain ⟨⟨⟨hone, hsix, -⟩, hsending⟩, -⟩ := s.engineLaw_iff.1 hs
      have hcount : (s.issueFrom b p).outstanding = s.outstanding + 1 := s.issueFrom_outstanding b p (by omega)
      have hnewest : (s.issueFrom b p).ring.get (tagIndex ((s.issueFrom b p).issue - 1)) = some ⟨p.ref, false⟩ := by
        have hissue : s.issue + 1 - 1 = s.issue := by bv_omega
        show (s.ring.set (tagIndex s.issue) (some ⟨p.ref, false⟩)).get (tagIndex (s.issue + 1 - 1)) = _
        rw [hissue, Bank.get_set_self]
      refine State.LinkLaw.engineLaw ⟨⟨hone, hsix, ?_⟩, fun c hc => ?_⟩ fun h => by cases hrun.symm.trans h
      · rw [hcount]
        exact hdepth
      · replace hc : ((s.setBuffer b { s.buffer b with state := .sending }).buffer c).state = .sending := hc
        obtain rfl : b = c := by
          by_contra hne
          rw [State.buffer_setBuffer, if_neg hne] at hc
          exact hne (Option.some.inj (hhead.symm.trans (hsending c hc).1))
        exact ⟨hhead, hcount ▸ Nat.le_add_left 1 _, _, hnewest, rfl⟩

/-- Nothing is SENDING. -/
theorem State.engineLaw_of_idle {s : State} (hpath : s.PathLaw) (hidle : ∀ b, (s.buffer b).state ≠ .sending)
    (hstopped : s.run = .stopped → s.outstanding = 0) : s.EngineLaw :=
  s.engineLaw_iff.2 ⟨⟨hpath, fun b hb => absurd hb (hidle b)⟩, hstopped⟩

theorem State.sendingBuffer_eq_some {s : State} {b : Fin 2} :
    s.sendingBuffer = some b ↔ (s.buffer b).state = .sending ∧ (b = 1 → (s.buffer 0).state ≠ .sending) := by
  rw [State.sendingBuffer, find_allBuffers_eq_some, decide_eq_true_eq, decide_eq_false_iff_not]

/-- Only the head is SENDING (R144), so once its send is complete nothing is. -/
theorem State.sendDone_engineLaw {s : State} (hs : s.EngineLaw) : s.sendDone.EngineLaw := by
  obtain ⟨⟨hpath, hsending⟩, hstopped⟩ := s.engineLaw_iff.1 hs
  unfold State.sendDone
  split
  · exact hs
  · next b hb =>
    have hhead := (hsending b (State.sendingBuffer_eq_some.1 hb).1).1
    have hidle : ∀ r : Raster, r.state ≠ .sending → ∀ c, ((s.setBuffer b r).buffer c).state ≠ .sending := fun r hr c hc => by
      rw [State.buffer_setBuffer] at hc
      split at hc
      · exact hr hc
      · next hne => exact hne (Option.some.inj (hhead.symm.trans (hsending c hc).1))
    split
    · exact hs
    · dsimp only
      split
      · exact State.engineLaw_of_idle hpath (hidle _ nofun) hstopped
      · exact State.engineLaw_of_idle hpath (hidle _ nofun) hstopped

/-! ### Jam recovery and PURGE (R161, R190) -/

theorem Raster.freedByJam_of_sending {r : Raster} (h : r.state = .sending) (lost : List PageRef) : r.freedByJam lost = true := by
  rw [Raster.freedByJam, h]

theorem State.buffer_jamBuffers (s : State) (lost before : List PageRef) (b : Fin 2) :
    (s.jamBuffers lost before).buffer b =
      if (s.buffer b).freedByJam lost || s.withdrawnByJam b lost then .free else s.buffer b :=
  Bank.get_mapIdx _ _ b

/-- A recovery frees the SENDING buffers (R146) and leaves nothing outstanding. -/
theorem State.recover_engineLaw {s : State} (hs : s.EngineLaw) : s.recover.EngineLaw := by
  obtain ⟨⟨hone, hsix, -⟩, -⟩ := hs
  have hnone := s.recover_outstanding
  refine State.engineLaw_of_idle ⟨hone, hsix, hnone ▸ Nat.zero_le _⟩ (fun b hb => ?_) fun _ => hnone
  rw [State.recover, State.buffer_jamBuffers] at hb
  split at hb
  · cases hb
  · next hkept => exact hkept (Bool.or_eq_true_iff.2 (.inl (Raster.freedByJam_of_sending hb _)))

theorem State.jamEvent_engineLaw {s : State} (hs : s.EngineLaw) (d : DevCond) (c : Cause) : (s.jamEvent d c).EngineLaw :=
  ((State.keepsLink_engineCause _ c).trans (State.keepsLink_deviceCond _ d)).engineLaw (State.recover_engineLaw hs)

theorem State.purge_engineLaw {s : State} (hs : s.EngineLaw) : s.purge.EngineLaw := by
  have hpurged : s.purgeAll.EngineLaw := by
    obtain ⟨⟨hone, hsix, -⟩, -⟩ := hs
    have hnone : s.purgeAll.outstanding = 0 := by
      rw [State.purgeAll_frame]
      simp [State.outstanding]
    have hdepth : s.purgeAll.settings = s.settings := by rw [State.purgeAll_frame]
    have hpath : s.purgeAll.PathLaw := by
      rw [State.PathLaw, hdepth, hnone]
      exact ⟨hone, hsix, Nat.zero_le _⟩
    refine State.engineLaw_of_idle hpath (fun b hb => ?_) fun _ => hnone
    rw [State.purgeAll_frame, State.buffer, Bank.get_replicate] at hb
    cases hb
  unfold State.purge
  split
  · exact hpurged
  · exact hpurged
  · exact hs
  · exact hs

/-! ### Confirmation (R157, R158) -/

/-- The oldest sheet, its data complete, is not the one being sent, so the newest is still outstanding once it is confirmed. -/
theorem State.confirmAdvanced_engineLaw {s : State} (hs : s.EngineLaw) (hsheet : 1 ≤ s.outstanding)
    (hdata : s.dataComplete s.confirm = true) : s.confirmAdvanced.EngineLaw := by
  obtain ⟨⟨⟨hone, hsix, hdepth⟩, hsending⟩, hstopped⟩ := s.engineLaw_iff.1 hs
  have hcount := State.outstanding_confirmAdvanced hsheet
  refine (State.engineLaw_iff _).2 ⟨⟨⟨hone, hsix, hcount ▸ (Nat.sub_le _ 1).trans hdepth⟩, fun b hb => ?_⟩, fun hrun => ?_⟩
  · obtain ⟨hhead, -, e, hentry, hincomplete⟩ := hsending b hb
    have hne : s.confirm ≠ s.issue - 1 := fun heq => by
      rw [State.dataComplete, heq, hentry] at hdata
      cases hdata.symm.trans hincomplete
    have hmore : 2 ≤ s.outstanding := by
      unfold State.outstanding at hsheet ⊢
      bv_omega
    have hplace : tagIndex s.confirm ≠ tagIndex (s.issue - 1) := fun heq =>
      hne (BitVec.eq_of_toNat_eq (Fin.mk.inj heq))
    refine ⟨hhead, hcount ▸ Nat.le_sub_one_of_lt hmore, e, ?_, hincomplete⟩
    exact (Bank.get_set_ne s.ring none hplace).trans hentry
  · rw [hstopped hrun] at hsheet
    cases hsheet

theorem State.stackedReport_engineLaw {s : State} (hs : s.EngineLaw) (tag : BitVec 4) : (s.stackedReport tag).EngineLaw := by
  unfold State.stackedReport
  split
  · next hout =>
    split
    · next holdest =>
      obtain ⟨rfl, hdata⟩ := holdest
      have hsheet : 1 ≤ s.outstanding := Nat.lt_of_le_of_lt (Nat.zero_le _) (of_decide_eq_true hout)
      have hadvanced := State.confirmAdvanced_engineLaw hs hsheet hdata
      unfold State.confirmOldest
      refine State.KeepsLink.engineLaw ((State.keepsLink_testStopped _).trans (State.KeepsLink.trans (.of_frame rfl) ?_)) hadvanced
      split
      · exact .of_frame (by rw [State.confirmCopy_frame]; rfl)
      · exact .rfl
    · exact State.jamEvent_engineLaw hs _ _
  · exact (s.keepsLink_deviceCond _).engineLaw hs

/-! ### Every command, every step -/

theorem State.stackTimerExpires_engineLaw {s : State} (hs : s.EngineLaw) : s.stackTimerExpires.EngineLaw := by
  unfold State.stackTimerExpires
  split
  · exact State.jamEvent_engineLaw hs _ _
  · exact hs

theorem State.panelSample_engineLaw {s : State} (hs : s.EngineLaw) (r : KeySample) (c : PanelCommand) {effect : State → State}
    (h : ∀ u, u.EngineLaw → (effect u).EngineLaw) : (s.panelSample r c effect).EngineLaw := by
  unfold State.panelSample
  split
  · exact h _ (State.KeepsLink.engineLaw (.of_frame rfl) hs)
  · exact hs

theorem exec_engineLaw (c : Instr) (s : State) (hs : s.EngineLaw) : ∃ t, exec c s = .next t ∧ t.EngineLaw := by
  have law {t : State} (e : exec c s = .next t) (h : t.EngineLaw) : ∃ t, exec c s = .next t ∧ t.EngineLaw := ⟨t, e, h⟩
  have keeps {t : State} (e : exec c s = .next t) (h : t.KeepsLink s) : ∃ t, exec c s = .next t ∧ t.EngineLaw := law e (h.engineLaw hs)
  have gate {α : Type} {row : Row} {p : Port} {operands : Header → Except Reason α} {rule : Header → α → State → Ruling}
      (e : exec c s = .next (s.endEvent row p operands rule))
      (hrule : ∀ h a u, (rule h a u).KeepsLink u) : ∃ t, exec c s = .next t ∧ t.EngineLaw :=
    law e (State.endEvent_engineLaw hs row p operands rule fun h a u v o f hu _ ev => by
      have hv := hrule h a u
      rw [ev] at hv
      exact State.KeepsLink.engineLaw hv hu)
  cases c with
  | powerOnReset =>
    obtain ⟨-, -, -, -, hreset, -⟩ := resetMeetsTheLaws
    exact law rfl hreset
  | portReset p => exact keeps rfl (s.keepsLink_resetPort p)
  | resetRelease p | frameRise p | answerReturn p n | byteStrobe p b => exact keeps rfl (.of_frame rfl)
  | print p => exact gate rfl fun h data u => printRule_keepsLink h p u data
  | mark p => exact gate rfl fun h id u => queueControl_keepsLink h u (.mark id)
  | close p => exact gate rfl fun h a u => closeRule_keepsLink h u a
  | xlateLoad p | pairLoad p | pairClear p | geometryLoad p | streamSet p | overlayBegin p | overlayEntries p | overlayEnd p =>
    exact gate rfl fun h b u => queueControl_keepsLink h u b
  | senseDevice p | senseMark p | portSet p | formSelect p => exact gate rfl fun _ _ _ => State.KeepsLink.of_frame rfl
  | senseStream p => exact gate rfl fun _ i u => senseStreamRule_keepsLink p i u
  | streamOpen p => exact gate rfl fun h g u => streamOpenRule_keepsLink p h.stream u g
  | streamRelease p => exact gate rfl fun h _ u => streamReleaseRule_keepsLink h.stream u
  | cancel p => exact gate rfl fun h _ u => (u.cancelStream_cancelled h.stream).keepsLink
  | formLoad p => exact gate rfl fun _ load u => formLoadRule_keepsLink u load.1 load.2
  | stop p => exact gate rfl fun _ _ u => u.keepsLink_stopRequest _
  | resume p => exact gate rfl fun _ _ u => u.keepsLink_start
  | engineSet p =>
    exact law rfl (State.endEvent_engineLaw hs _ p _ _ fun _ _ _ _ _ _ hu hread e =>
      engineSetRule_engineLaw hu (readEngineSet_pathDepth (checkControl_eq_ok hread)) e)
  | takePrint => exact keeps rfl (s.keepsLink_take _ fun i r data => printTaking_keepsLink s i r data)
  | takeMark => exact keeps rfl (s.keepsLink_take _ fun i r id => markTaking_keepsLink s i r id)
  | takeClose => exact keeps rfl (s.keepsLink_take _ fun i _ _ => closeTaking_keepsLink s i)
  | takeXlateLoad =>
    exact keeps rfl (s.keepsLink_take _ fun i _ load =>
      controlTaking_keepsLink s i (fun u => u.keepsLink_fenceTest i load.1) fun _ => .of_frame rfl)
  | takePairLoad =>
    exact keeps rfl (s.keepsLink_take _ fun i _ load =>
      controlTaking_keepsLink s i (fun u => u.keepsLink_fenceTest i load.1) fun _ =>
        (State.keepsLink_countIf _ _ i _).trans (.of_frame rfl))
  | takePairClear =>
    exact keeps rfl (s.keepsLink_take _ fun i _ k =>
      controlTaking_keepsLink s i (fun u => u.keepsLink_fenceTest i k) fun _ => .of_frame rfl)
  | takeGeometryLoad | takeStreamSet =>
    exact keeps rfl (s.keepsLink_take _ fun i _ _ => controlTaking_keepsLink s i (fun _ => .rfl) fun _ => .of_frame rfl)
  | takeOverlayBegin =>
    exact keeps rfl (s.keepsLink_take _ fun i _ load =>
      controlTaking_keepsLink s i (fun u => u.keepsLink_beginTest i load.1) fun u => u.keepsLink_beginLoad i load.1 load.2)
  | takeOverlayEntries =>
    exact keeps rfl (s.keepsLink_take _ fun i _ entries =>
      controlTaking_keepsLink s i (fun _ => .rfl) fun u => u.keepsLink_addEntries i entries)
  | takeOverlayEnd =>
    exact keeps rfl (s.keepsLink_take _ fun i _ _ => controlTaking_keepsLink s i (fun _ => .rfl) fun u => u.keepsLink_endLoad i)
  | pageAgeExpiry i => exact keeps rfl (.of_frame rfl)
  | selection => exact law rfl (State.select_engineLaw hs)
  | renderingComplete => exact law rfl (State.renderingDone_engineLaw hs)
  | sheet => exact law rfl (State.issueSheet_engineLaw hs)
  | sendComplete => exact law rfl (State.sendDone_engineLaw hs)
  | ready => exact keeps rfl s.keepsLink_readyReport
  | notReady => exact keeps rfl (s.keepsLink_lossOfReadiness _ _)
  | trayEmpty n | stackerFull n => exact keeps rfl (s.keepsLink_numberedReport n _ _)
  | stacked tag => exact law rfl (State.stackedReport_engineLaw hs tag)
  | jam => exact law rfl (State.jamEvent_engineLaw hs _ _)
  | restarted => exact law rfl (State.jamEvent_engineLaw (State.KeepsLink.engineLaw (.of_frame rfl) hs) _ _)
  | unrecognisedReport code => exact law rfl hs
  | stackTimeout => exact law rfl (State.stackTimerExpires_engineLaw hs)
  | panelStart k => exact law rfl (State.panelSample_engineLaw hs k _ fun u => u.keepsLink_start.engineLaw)
  | panelStop k => exact law rfl (State.panelSample_engineLaw hs k _ fun u => (u.keepsLink_stopRequest _).engineLaw)
  | purge k => exact law rfl (State.panelSample_engineLaw hs k _ fun _ => State.purge_engineLaw)
  | keySample k => exact law rfl (State.panelSample_engineLaw hs k _ fun _ => id)

/-- Settles O55: a command on the rest of the queue keeps the law, and so does the grant made on an empty queue. -/
theorem everyStepKeepsTheEngineLaw : Obligations.EveryStepKeepsTheEngineLaw := by
  unfold Obligations.EveryStepKeepsTheEngineLaw
  intro s t hs h
  unfold step at h
  split at h
  · cases h
    exact s.keepsLink_makeGrant.engineLaw hs
  · next c rest _ =>
    obtain ⟨u, hu, hlaw⟩ := exec_engineLaw c { s with pending := rest } hs
    rw [hu] at h
    cases h
    exact hlaw

end Sys2Proof.Machine
end

section
/-! The output raster format and SEND_COMPLETE (R144, R145, R156). -/

namespace Sys2Proof.Machine

/-! ### A byte of dots (R145) -/

/-- A number built from bits, the least significant first. -/
theorem foldr_bits_testBit (bits : List Bool) (k : Nat) :
    (bits.foldr (fun (b : Bool) n => 2 * n + b.toNat) 0).testBit k = bits[k]?.getD false := by
  induction bits generalizing k with
  | nil => simp
  | cons b bits ih =>
    rw [List.foldr_cons, ← Nat.bit_val]
    cases k with
    | zero => simp
    | succ k => rw [Nat.testBit_bit_succ, ih, List.getElem?_cons_succ]

/-- The last of the bits is the least significant. -/
theorem byteOfBits_getLsbD (bits : List Bool) {k : Nat} (hk : k < 8) : (byteOfBits bits).getLsbD k = bits.reverse[k]?.getD false := by
  rw [← foldr_bits_testBit, List.foldr_reverse, byteOfBits, BitVec.getLsbD_ofNat, decide_eq_true hk, Bool.true_and]

/-- The bit of a byte that carries dot `j` of its 8, from the left. -/
def BitOrder.place (j : Nat) : BitOrder → Nat
  | .leftmostInMsb => 7 - j
  | .leftmostInLsb => j

/-- Every dot is sent at its place, by the polarity. -/
theorem packByte_getLsbD (e : EngineSettings) {dots : List Bool} (hdots : dots.length = 8) {j : Nat} (hj : j < 8) :
    (packByte e dots).getLsbD (e.bitOrder.place j) = e.polarity.bit (dots[j]?.getD false) := by
  have hbit : (dots.map e.polarity.bit)[j]?.getD false = e.polarity.bit (dots[j]?.getD false) := by
    simp [hdots, hj]
  unfold packByte
  cases e.bitOrder with
  | leftmostInMsb =>
    dsimp only [BitOrder.place]
    rw [byteOfBits_getLsbD _ (by omega), List.getElem?_reverse (by simp [hdots]; omega), List.length_map, hdots,
      show 8 - 1 - (7 - j) = j by omega, hbit]
  | leftmostInLsb =>
    dsimp only [BitOrder.place]
    rw [byteOfBits_getLsbD _ hj, List.reverse_reverse, hbit]

/-! ### A row (R145) -/

theorem packDots_of_le (e : EngineSettings) {dots : List Bool} (h : 8 ≤ dots.length) :
    packDots e dots = packByte e (dots.take 8) :: packDots e (dots.drop 8) := by
  match dots, h with
  | _ :: _ :: _ :: _ :: _ :: _ :: _ :: _ :: _, _ => rfl

/-- Whole bytes of 8 consecutive dots. -/
theorem packDots_eq (e : EngineSettings) {m : Nat} {dots : List Bool} (h : dots.length = 8 * m) :
    packDots e dots = (List.range m).map fun k => packByte e ((dots.drop (8 * k)).take 8) := by
  induction m generalizing dots with
  | zero =>
    obtain rfl := List.length_eq_zero_iff.1 h
    rfl
  | succ m ih =>
    rw [packDots_of_le e (by omega), ih (by rw [List.length_drop]; omega), List.range_succ_eq_map, List.map_cons, List.map_map]
    congr 1
    refine List.map_congr_left fun k _ => ?_
    rw [Function.comp_apply, List.drop_drop, show 8 + 8 * k = 8 * k.succ by omega]

/-- A row is padded to a multiple of 32 dots. -/
theorem padRow_length (row : List Bool) : (padRow row).length = 8 * (4 * ((row.length + 31) / 32)) := by
  rw [padRow, List.length_append, List.length_replicate]
  omega

/-- It is padded with white. -/
theorem padRow_getD (row : List Bool) (n : Nat) : (padRow row)[n]?.getD false = row[n]?.getD false := by
  unfold padRow
  rcases Nat.lt_or_ge n row.length with h | h
  · rw [List.getElem?_append_left h]
  · rw [List.getElem?_append_right h, List.getElem?_eq_none h, List.getElem?_replicate]
    split <;> rfl

/-- The bytes of a row carry its dots and white ones behind them. -/
theorem packDots_padRow_getLsbD (e : EngineSettings) {row : List Bool} {k j : Nat} {b : Byte}
    (hb : (packDots e (padRow row))[k]? = some b) (hj : j < 8) :
    b.getLsbD (e.bitOrder.place j) = e.polarity.bit (row[8 * k + j]?.getD false) := by
  have hpadded := padRow_length row
  rw [packDots_eq e hpadded, List.getElem?_map, Option.map_eq_some_iff] at hb
  obtain ⟨n, hn, rfl⟩ := hb
  obtain ⟨hk, rfl⟩ := List.getElem?_eq_some_iff.1 hn
  rw [List.length_range] at hk
  rw [List.getElem_range, packByte_getLsbD e (by rw [List.length_take, List.length_drop]; omega) hj, List.getElem?_take_of_lt hj,
    List.getElem?_drop, padRow_getD]

/-! ### SEND_COMPLETE (R144, R156) -/

/-- With no send under way nothing completes (log entry 8). -/
theorem State.sendDone_of_idle {s : State} (h : ∀ b, (s.buffer b).state ≠ .sending) : s.sendDone = s := by
  have hnone : s.sendingBuffer = none := Option.eq_none_iff_forall_ne_some.2 fun b hb => h b (State.sendingBuffer_eq_some.1 hb).1
  rw [State.sendDone, hnone]

theorem State.sendDone_of_page {s : State} {b : Fin 2} {p : Page} (hb : s.sendingBuffer = some b) (hp : s.bufferPage b = some p) :
    s.sendDone =
      let sent : State := { s.completeData with sentRows := sendRows s.settings (s.buffer b).dots }
      if p.copiesIssued < p.copies then sent.setBuffer b { s.buffer b with state := .ready } else sent.releaseBuffer b := by
  simp only [State.sendDone, hb, hp]

theorem State.releaseBuffer_eq (s : State) (b : Fin 2) :
    s.releaseBuffer b = { s with
      buffers := s.buffers.set b { state := .free, page := none, width := 0, height := 0, overlayReady := false, dots := [] }
      offer := s.offer.filter fun c => decide (c ≠ b) } := by
  simp only [decide_not]
  rfl

/-- Settles O42: the raster format dot by dot, and the end of a send by what is left of its copies. -/
theorem sendCompletesInTheRasterFormat : Obligations.SendCompletesInTheRasterFormat := by
  unfold Obligations.SendCompletesInTheRasterFormat
  refine ⟨fun e dots => ⟨List.length_map _, fun n row hrow => ⟨packDots e (padRow row), ?row, ?bytes, fun k j b hb hj => ?bit⟩⟩,
    fun s => ⟨fun hidle => congrArg Host.Outcome.next (State.sendDone_of_idle hidle), ?complete⟩⟩
  case row => rw [sendRows, List.getElem?_map, hrow]; rfl
  case bytes => rw [packDots_eq e (padRow_length row), List.length_map, List.length_range]
  case bit =>
    have hdot := packDots_padRow_getLsbD e hb hj
    generalize e.bitOrder = order, e.polarity = polarity at hdot ⊢
    cases order <;> cases polarity <;> exact hdot
  case complete =>
    intro b r p hsending hfirst hpage hfind sent
    have hbuffer : s.bufferPage b = some p := by rw [State.bufferPage, hpage]; exact hfind
    have hdone := State.sendDone_of_page (State.sendingBuffer_eq_some.2 ⟨hsending, hfirst⟩) hbuffer
    refine ⟨fun hmore => congrArg Host.Outcome.next ?_, fun hlast => congrArg Host.Outcome.next ?_⟩
    · rw [hdone, if_pos hmore]
      rfl
    · rw [hdone, if_neg (Nat.not_lt.2 hlast), State.releaseBuffer_eq]
      rfl

end Sys2Proof.Machine
end

section
/-! Jam recovery (R146, R161, R162): the lost pages in issue order, the buffers freed and withdrawn, and the pages put back. -/

namespace Sys2Proof.Machine

/-! ### The lost pages (R154, R162) -/

/-- The outstanding sheets' pages, by the ring entries from the confirm counter on. -/
theorem State.outstandingPages_eq (s : State) :
    s.outstandingPages = (List.range ((s.issue.toNat + 16 - s.confirm.toNat) % 16)).filterMap fun k =>
      (s.ring.get (Fin.ofNat 16 (s.confirm.toNat + k))).map fun e => e.page := by
  rw [State.outstandingPages, State.outstandingTags, List.filterMap_map, s.outstanding_eq]
  refine congrArg (List.filterMap · _) (funext fun k => ?_)
  have hplace : tagIndex (s.confirm + BitVec.ofNat 4 k) = Fin.ofNat 16 (s.confirm.toNat + k) :=
    Fin.ext (by simp [tagIndex, BitVec.toNat_add])
  rw [Function.comp_apply, hplace]

/-- One more page at the end is placed there where it has no place yet. -/
theorem firstPlaces_append_singleton (l : List PageRef) (a : PageRef) :
    firstPlaces (l ++ [a]) = if a ∈ l then firstPlaces l else firstPlaces l ++ [a] := by
  induction l with
  | nil => rfl
  | cons r l ih =>
    rw [List.cons_append, firstPlaces, ih, firstPlaces]
    by_cases hl : a ∈ l
    · rw [if_pos hl, if_pos (List.mem_cons_of_mem r hl)]
    · by_cases hr : a = r
      · subst hr
        simp [hl]
      · simp [hl, hr]

/-- Each page once, at its first place. -/
theorem firstPlaces_eq_dedup (l : List PageRef) : firstPlaces l = l.reverse.dedup.reverse := by
  induction l using List.reverseRecOn with
  | nil => rfl
  | append_singleton l a ih =>
    rw [firstPlaces_append_singleton, ih, List.reverse_append, List.reverse_singleton, List.singleton_append]
    split
    · next h => rw [List.dedup_cons_of_mem (List.mem_reverse.2 h)]
    · next h => rw [List.dedup_cons_of_notMem (mt List.mem_reverse.1 h), List.reverse_cons]

/-! ### The pages lost and what is found of the others (R161) -/

/-- A page of the store after the copies of the `lost` pages have been lost. -/
def Page.afterLoss (lost : List PageRef) (p : Page) : Page :=
  if p.ref ∈ lost then { p with copiesIssued := p.copiesStacked, state := .closed } else p

section
variable {lost : List PageRef} {p : Page}

theorem Page.afterLoss_of_lost (h : p.ref ∈ lost) : p.afterLoss lost = { p with copiesIssued := p.copiesStacked, state := .closed } :=
  if_pos h

theorem Page.afterLoss_of_kept (h : p.ref ∉ lost) : p.afterLoss lost = p := if_neg h

@[simp] theorem Page.afterLoss_ref : (p.afterLoss lost).ref = p.ref := by
  unfold Page.afterLoss
  split <;> rfl

@[simp] theorem Page.afterLoss_stream : (p.afterLoss lost).stream = p.stream := by
  unfold Page.afterLoss
  split <;> rfl

end

/-- The state of steps 1 to 3 of R161, before the imager's part. -/
def State.afterLoss (s : State) (lost before : List PageRef) : State :=
  { s with
    pages := s.pages.map (Page.afterLoss lost)
    recovery := lost ++ before
    confirm := s.issue
    ring := .replicate 16 none
    stackTimer := none }

theorem State.recover_eq (s : State) :
    s.recover =
      let lost := firstPlaces s.outstandingPages
      let before := s.recovery.filter fun r => !decide (r ∈ lost)
      (s.afterLoss lost before).jamBuffers lost before := rfl

section
variable (s : State) (lost before : List PageRef)

theorem State.findPage_afterLoss (r : PageRef) : (s.afterLoss lost before).findPage r = (s.findPage r).map (Page.afterLoss lost) :=
  findPage_map _ _ (fun _ => Page.afterLoss_ref) r

theorem State.bufferPage_afterLoss (b : Fin 2) : (s.afterLoss lost before).bufferPage b = (s.bufferPage b).map (Page.afterLoss lost) := by
  have hbuffer : (s.afterLoss lost before).buffer b = s.buffer b := rfl
  unfold State.bufferPage
  rw [hbuffer]
  cases (s.buffer b).page with
  | none => rfl
  | some r => exact s.findPage_afterLoss lost before r

/-! ### The buffers freed and withdrawn (R146) -/

theorem Raster.freedByJam_eq (r : Raster) :
    r.freedByJam lost = (decide (r.state = .sending) || decide (r.state = .ready) && lost.any fun q => decide (r.page = some q)) := by
  unfold Raster.freedByJam
  cases r.state with
  | free => simp
  | rendering => simp
  | sending => simp
  | ready =>
    cases r.page with
    | none => simp
    | some p => rw [Bool.eq_iff_iff]; simp

theorem State.bufferPage_some {s : State} {b : Fin 2} {p : Page} (h : s.bufferPage b = some p) :
    (s.buffer b).page = some p.ref ∧ s.findPage p.ref = some p := by
  obtain ⟨r, hpage, hfind⟩ := Option.bind_eq_some_iff.1 h
  obtain ⟨rfl, -⟩ := State.findPage_some hfind
  exact ⟨hpage, hfind⟩

/-- A buffer is withdrawn where its page was IMAGING before the loss and is not lost itself. -/
theorem State.withdrawnByJam_afterLoss (b : Fin 2) :
    (s.afterLoss lost before).withdrawnByJam b lost =
      match s.bufferPage b with
      | some p =>
        decide (((s.buffer b).state = .rendering ∨ (s.buffer b).state = .ready) ∧ p.ref ∉ lost ∧ p.state = .imaging)
          && (lost ++ before).any fun q => decide (q.stream = p.stream)
      | none => false := by
  have hbuffer : (s.afterLoss lost before).buffer b = s.buffer b := rfl
  unfold State.withdrawnByJam
  dsimp only
  rw [State.bufferPage_afterLoss, hbuffer, Raster.freedByJam_eq]
  cases hfound : s.bufferPage b with
  | none => simp
  | some p =>
    obtain ⟨hpage, -⟩ := State.bufferPage_some hfound
    by_cases hlost : p.ref ∈ lost
    · simp [Page.afterLoss_of_lost hlost, hlost]
    · have hkept : (lost.any fun q => decide ((s.buffer b).page = some q)) = false := by
        rw [List.any_eq_false]
        intro q hq
        simpa [hpage] using fun h : p.ref = q => hlost (h ▸ hq)
      rw [Option.map_some, Page.afterLoss_of_kept hlost, hkept]
      cases (s.buffer b).state <;> simp [hlost, State.afterLoss]

end

/-! ### The pages put back (R146 step 3) -/

/-- A later page of the same stream, looked for among all the pages or among that stream's alone. -/
theorem any_after_filter_stream (pages : List Page) (r : PageRef) (g : Page → Bool) :
    (((pages.filter fun q => decide (q.stream = r.stream)).dropWhile fun q => !decide (q.ref = r)).drop 1).any g
      = ((pages.dropWhile fun q => !decide (q.ref = r)).drop 1).any fun q => decide (q.stream = r.stream) && g q := by
  induction pages with
  | nil => rfl
  | cons q pages ih =>
    by_cases href : q.ref = r
    · have hstream : q.stream = r.stream := congrArg PageRef.stream href
      simp [href, hstream, List.any_filter]
    · by_cases hstream : q.stream = r.stream
      · simpa [href, hstream] using ih
      · simpa [href, hstream] using ih

/-- The loss of copies leaves the page order. -/
theorem State.earlierThanRecovered_afterLoss (s : State) (lost before : List PageRef) (p : Page) :
    (s.afterLoss lost before).earlierThanRecovered p =
      ((s.pages.dropWhile fun q => decide (q.ref ≠ p.ref)).drop 1).any fun q =>
        decide (q.stream = p.stream) && decide (q.ref ∈ lost ++ before) := by
  have hmapped := any_after_filter_stream (s.pages.map (Page.afterLoss lost)) p.ref fun q => decide (q.ref ∈ lost ++ before)
  refine hmapped.trans ?_
  rw [List.dropWhile_map, ← List.map_drop, List.any_map]
  simp only [Function.comp_def, Page.afterLoss_ref, Page.afterLoss_stream, decide_not, ne_eq]
  rfl

/-- What is put back, buffer by buffer: the page of a withdrawn buffer, where a later page of its stream is on the list. -/
theorem State.putBack_afterLoss (s : State) (lost before : List PageRef) :
    (s.afterLoss lost before).putBack lost =
      s.offer.filterMap fun b =>
        if (s.afterLoss lost before).withdrawnByJam b lost then
          (s.buffer b).page.filter fun r =>
            ((s.pages.dropWhile fun q => decide (q.ref ≠ r)).drop 1).any fun q =>
              decide (q.stream = r.stream) && decide (q.ref ∈ lost ++ before)
        else none := by
  unfold State.putBack
  refine congrArg (List.filterMap · s.offer) (funext fun b => ?_)
  cases hfound : s.bufferPage b with
  | none =>
    have hstays : (s.afterLoss lost before).withdrawnByJam b lost = false := by rw [State.withdrawnByJam_afterLoss, hfound]
    rw [State.bufferPage_afterLoss, hfound, hstays]
    rfl
  | some p =>
    obtain ⟨hpage, -⟩ := State.bufferPage_some hfound
    rw [State.bufferPage_afterLoss, hfound, Option.map_some]
    simp only [State.earlierThanRecovered_afterLoss, Page.afterLoss_ref, Page.afterLoss_stream, hpage, Option.filter_some]
    exact ite_and _ _ _ _

/-! ### The recovery (R161) -/

/-- A page of the store once the buffers that hold the pages of `refs` have been withdrawn. -/
def Page.withdrawn (refs : List PageRef) (p : Page) : Page := if p.ref ∈ refs then { p with state := .closed } else p

/-- The withdrawn buffers' pages return to CLOSED, and the lost ones are CLOSED already. -/
theorem Page.withdrawn_afterLoss (lost refs : List PageRef) (p : Page) :
    (p.afterLoss lost).withdrawn refs =
      if p.ref ∈ lost then { p with copiesIssued := p.copiesStacked, state := .closed }
      else if p.ref ∈ refs then { p with state := .closed }
      else p := by
  rw [Page.withdrawn, Page.afterLoss_ref]
  by_cases hlost : p.ref ∈ lost
  · rw [if_pos hlost, Page.afterLoss_of_lost hlost]
    dsimp only
    rw [ite_self]
  · rw [if_neg hlost, Page.afterLoss_of_kept hlost]

/-- The pages that buffers hold. -/
theorem State.mem_bufferPages (s : State) (f : Fin 2 → Bool) (r : PageRef) :
    r ∈ (allBuffers.filter f).filterMap (fun b => (s.buffer b).page) ↔
      ([0, 1] : List (Fin 2)).any (fun b => f b && decide ((s.buffer b).page = some r)) = true := by
  simp [List.mem_filterMap, and_assoc, allBuffers]

/-- The imager's part of a recovery, by which buffers are freed and which withdrawn (R146). -/
theorem State.jamBuffers_afterLoss (s : State) (lost before : List PageRef) {freed withdrawn : Fin 2 → Bool}
    (hfreed : ∀ b, (s.buffer b).freedByJam lost = freed b)
    (hwithdrawn : ∀ b, (s.afterLoss lost before).withdrawnByJam b lost = withdrawn b) :
    (s.afterLoss lost before).jamBuffers lost before = { s with
      pages := s.pages.map fun p =>
        if p.ref ∈ lost then { p with copiesIssued := p.copiesStacked, state := .closed }
        else if ([0, 1] : List (Fin 2)).any fun b => withdrawn b && decide ((s.buffer b).page = some p.ref) then
          { p with state := .closed }
        else p
      recovery := lost ++ (s.afterLoss lost before).putBack lost ++ before
      confirm := s.issue
      ring := .replicate 16 none
      stackTimer := none
      buffers := s.buffers.mapIdx fun b r => if freed b || withdrawn b then .free else r
      offer := s.offer.filter fun b => !(freed b || withdrawn b) } := by
  obtain rfl := funext hfreed
  obtain rfl := funext hwithdrawn
  have hpages : ∀ refs, s.pages.map (fun p => (p.afterLoss lost).withdrawn refs)
      = (s.pages.map (Page.afterLoss lost)).map (Page.withdrawn refs) := fun refs => by
    rw [List.map_map]
    rfl
  simp only [← State.mem_bufferPages, ← Page.withdrawn_afterLoss, hpages]
  rfl

/-- Settles O47. -/
theorem jamRecovery : Obligations.JamRecovery := by
  unfold Obligations.JamRecovery
  intro s sheets lost before withdrawn freed later back
  have hlost : firstPlaces s.outstandingPages = lost := by
    rw [firstPlaces_eq_dedup, State.outstandingPages_eq]
  have hbefore : (s.recovery.filter fun r => !decide (r ∈ lost)) = before := by simp only [before, decide_not]
  have hrecover : s.recover = (s.afterLoss lost before).jamBuffers lost before := by
    rw [State.recover_eq, hlost, ← hbefore]
  have hwithdrawn : ∀ b, (s.afterLoss lost before).withdrawnByJam b lost = withdrawn b :=
    s.withdrawnByJam_afterLoss lost before
  have hfreed : ∀ b, (s.buffer b).freedByJam lost = freed b := fun b => Raster.freedByJam_eq lost _
  have hback : (s.afterLoss lost before).putBack lost = back := by
    simp only [State.putBack_afterLoss, hwithdrawn]
    rfl
  rw [hrecover, State.jamBuffers_afterLoss s lost before hfreed hwithdrawn, hback]
  rfl

end Sys2Proof.Machine
end

section
/-! SUPPORT. The engine's reports and the jam-class events, one by one (chapter 09): what each makes of the state, by the number, the tag
or the cause it comes with. -/

namespace Sys2Proof.Machine

variable {s : State}

/-! ### Engine causes (R164) -/

/-- Both states in which the engine works give way to CHECK, which is an attention cause on both ports. -/
theorem State.engineCause_of_working (hrun : s.run = .run ∨ s.run = .stopping) (c : Cause) :
    s.engineCause c = { s with
      run := .check, cause := c, ports := s.ports.map fun q => { q with causes := { q.causes with run := true } } } := by
  rw [State.engineCause]
  cases hrun with
  | inl hrun | inr hrun => rw [hrun]; exact State.joinBoth_eq _ _

theorem State.engineCause_of_check (hrun : s.run = .check) (c : Cause) :
    s.engineCause c = if s.cause = .jam then s else { s with cause := c } := by
  rw [State.engineCause, hrun]

theorem State.engineCause_of_stopped (hrun : s.run = .stopped) (c : Cause) : s.engineCause c = s := by
  rw [State.engineCause, hrun]

/-! ### STACKED that confirms nothing (R158) -/

theorem State.isOutstanding_eq_true {tag : BitVec 4} : s.isOutstanding tag = true ↔ (tag - s.confirm).toNat < s.outstanding :=
  decide_eq_true_iff

/-- A sheet's data is not complete when its entry says so, or when it has none. -/
theorem State.not_dataComplete {tag : BitVec 4} (h : ∀ e, s.ring.get (tagIndex tag) = some e → e.dataComplete = false) :
    ¬ s.dataComplete tag = true := by
  rw [State.dataComplete]
  cases hentry : s.ring.get (tagIndex tag) with
  | none => exact Bool.false_ne_true
  | some e => exact ne_true_of_eq_false (h e hentry)

/-- A STACKED for an outstanding sheet that is not the oldest, or that is still being sent. -/
theorem State.stackedReport_of_sequence {tag : BitVec 4} (hout : (tag - s.confirm).toNat < s.outstanding)
    (hwrong : tag ≠ s.confirm ∨ ∀ e, s.ring.get (tagIndex tag) = some e → e.dataComplete = false) :
    s.stackedReport tag = s.jamEvent .sequence .jam := by
  have hno : ¬ (tag = s.confirm ∧ s.dataComplete tag = true) := fun ⟨holdest, hdata⟩ =>
    hwrong.elim (fun hne => hne holdest) fun hincomplete => State.not_dataComplete hincomplete hdata
  rw [State.stackedReport, if_pos (State.isOutstanding_eq_true.2 hout), if_neg hno]

theorem State.stackedReport_of_late {tag : BitVec 4} (hlate : s.outstanding ≤ (tag - s.confirm).toNat) :
    s.stackedReport tag = s.deviceCond .lateStack := by
  have hno : ¬ s.isOutstanding tag = true := fun h => hlate.not_gt (State.isOutstanding_eq_true.1 h)
  rw [State.stackedReport, if_neg hno]

/-! ### The stack timer (R160) -/

theorem State.stackTimerExpires_of_stopped (htimer : s.stackTimer = none) : s.stackTimerExpires = s := by
  rw [State.stackTimerExpires, htimer]

theorem State.stackTimerExpires_of_running (htimer : s.stackTimer ≠ none) : s.stackTimerExpires = s.jamEvent .stackTimeout .jam := by
  obtain ⟨n, hn⟩ := Option.ne_none_iff_exists'.1 htimer
  rw [State.stackTimerExpires, hn]

/-! ### Readiness (R150, R161, R165, R166) -/

/-- Recovery neither reads nor writes the readiness. -/
theorem State.recover_engineReady (s : State) (ready : Bool) :
    ({ s with engineReady := ready } : State).recover = { s.recover with engineReady := ready } := rfl

theorem State.numberedReport_of_known {n : Nat} (hn : n = 1 ∨ n = 2) (d : DevCond) (c : Cause) :
    s.numberedReport n d c = s.lossOfReadiness d c := if_pos hn

theorem State.numberedReport_of_unknown {n : Nat} (h1 : n ≠ 1) (h2 : n ≠ 2) (d : DevCond) (c : Cause) : s.numberedReport n d c = s :=
  if_neg (not_or_intro h1 h2)

theorem Cause.clearedByReady_iff (c : Cause) :
    c.clearedByReady = true ↔ c = .notReady ∨ c = .trayEmpty ∨ c = .stackerFull ∨ c = .engineRestart := by
  cases c <;> decide

/-- A READY report by the run state and the cause written out (R150, R166). -/
theorem State.readyReport_eq (s : State) :
    s.readyReport =
      if s.run = .check ∧ (s.cause = .notReady ∨ s.cause = .trayEmpty ∨ s.cause = .stackerFull ∨ s.cause = .engineRestart) then
        { s with engineReady := true, run := .run }
      else { s with engineReady := true } :=
  if_congr (and_congr_right' s.cause.clearedByReady_iff) rfl rfl

/-! ### The two obligations -/

/-- Settles O46: an engine cause by the run state it finds, and each event by its own lemma; a restart's loss of readiness commutes with
the recovery. -/
theorem jamClassEventsAndEngineCauses : Obligations.JamClassEventsAndEngineCauses := by
  unfold Obligations.JamClassEventsAndEngineCauses
  intro place
  have hplace : DevCond.index = place := funext fun d => by cases d <;> rfl
  refine ⟨fun s => ⟨fun d => ?condition, fun c => ⟨fun h => s.engineCause_of_working h c, fun h => s.engineCause_of_check h c,
    fun h => s.engineCause_of_stopped h c⟩⟩, fun s => ⟨rfl, ?restarted, fun htimer => ?stopped, fun htimer => ?expired,
    fun tag hout hwrong => ?outOfOrder⟩⟩
  case condition => rw [State.deviceCond_eq, hplace]
  case restarted => exact congrArg (fun u : State => Host.Outcome.next ((u.deviceCond _).engineCause _)) (s.recover_engineReady false)
  case stopped => exact congrArg Host.Outcome.next (State.stackTimerExpires_of_stopped htimer)
  case expired => exact congrArg Host.Outcome.next (State.stackTimerExpires_of_running htimer)
  case outOfOrder => exact congrArg Host.Outcome.next (State.stackedReport_of_sequence hout hwrong)

/-- Settles O48: each report by its own lemma. -/
theorem reportsOfTheEngine : Obligations.ReportsOfTheEngine := by
  unfold Obligations.ReportsOfTheEngine
  intro s unready
  refine ⟨rfl, fun n => ⟨fun hn => ⟨?tray, ?stacker⟩, fun h1 h2 => ⟨?noTray, ?noStacker⟩⟩, fun hcheck => ?leavesCheck,
    fun hother => ?ready, fun tag hlate => ?late, fun code => rfl⟩
  case tray | stacker => exact congrArg Host.Outcome.next (State.numberedReport_of_known hn _ _)
  case noTray | noStacker => exact congrArg Host.Outcome.next (State.numberedReport_of_unknown h1 h2 _ _)
  case leavesCheck => exact congrArg Host.Outcome.next (s.readyReport_eq.trans (if_pos hcheck))
  case ready => exact congrArg Host.Outcome.next (s.readyReport_eq.trans (if_neg hother))
  case late => exact congrArg Host.Outcome.next (State.stackedReport_of_late hlate)

end Sys2Proof.Machine
end

section
/-! SUPPORT. The lines and bytes of a channel port (chapter 10): what FRAME, a strobed byte, an acknowledged answer and the release of
RESET make of the port, by its reception state. -/

namespace Sys2Proof.Machine

/-! ### One update of a port -/

/-- An update of one port is what it makes of that port's record. -/
theorem State.updPort_congr {s : State} {p : Port} {f g : PortState → PortState} (h : f (s.port p) = g (s.port p)) :
    s.updPort p f = s.updPort p g :=
  congrArg (fun q => { s with ports := s.ports.set (portIndex p) q }) h

/-- An update that leaves the port's record as it is leaves the state. -/
theorem State.updPort_eq_self {s : State} {p : Port} {f : PortState → PortState} (h : f (s.port p) = s.port p) :
    s.updPort p f = s :=
  congrArg (fun b => { s with ports := b }) (Bank.modify_eq_self s.ports (portIndex p) h)

variable {q : PortState}

/-! ### FRAME rises (R170, R182) -/

/-- A FRAME that is high already begins no record. -/
theorem PortState.raiseFrame_eq (q : PortState) :
    q.raiseFrame =
      if q.frame = false ∧ q.reception = .idle ∧ q.reset = false then
        { q with frame := true, reception := .receiving, count := 0, bytes := [], ranLong := false }
      else { q with frame := true } := by
  unfold PortState.raiseFrame
  cases hframe : q.frame with
  | true =>
    have hkept : q = { q with frame := true } := by rw [← hframe]
    exact hkept
  | false => simp only [PortState.receive, Bool.false_eq_true, if_false, true_and]

/-! ### A byte is strobed (R170) -/

theorem PortState.declared_of_short (hshort : q.bytes.length < 4) : q.declared = 4 := by
  unfold PortState.declared
  split
  next h =>
    simp only [h, List.length_cons] at hshort
    omega
  next => rfl

theorem PortState.declared_of_header {h0 h1 h2 n : Byte} {data : List Byte} (hbytes : q.bytes = h0 :: h1 :: h2 :: n :: data) :
    q.declared = 4 + n.toNat := by
  rw [PortState.declared, hbytes]

theorem PortState.strobe_of_not_receiving (hq : q.reception ≠ .receiving) (b : Byte) :
    q.strobe b = { q with acknowledged := false } := by
  unfold PortState.strobe
  split
  next h => exact absurd h hq
  next => rfl

theorem PortState.strobe_of_receiving (hq : q.reception = .receiving) (b : Byte) :
    q.strobe b =
      if q.bytes.length < q.declared then { q with acknowledged := true, count := q.count + 1, bytes := q.bytes ++ [b] }
      else { q with acknowledged := true, count := q.count + 1, ranLong := true } := by
  rw [PortState.strobe, hq]

/-- A byte of the header is kept. -/
theorem PortState.strobe_of_short (hq : q.reception = .receiving) (hshort : q.bytes.length < 4) (b : Byte) :
    q.strobe b = { q with acknowledged := true, count := q.count + 1, bytes := q.bytes ++ [b] } := by
  rw [PortState.strobe_of_receiving hq, PortState.declared_of_short hshort, if_pos hshort]

/-- A byte past the header is kept up to the data length that the header declares. -/
theorem PortState.strobe_of_header {h0 h1 h2 n : Byte} {data : List Byte} (hq : q.reception = .receiving)
    (hbytes : q.bytes = h0 :: h1 :: h2 :: n :: data) (b : Byte) :
    q.strobe b =
      if data.length < n.toNat then { q with acknowledged := true, count := q.count + 1, bytes := q.bytes ++ [b] }
      else { q with acknowledged := true, count := q.count + 1, ranLong := true } := by
  have hroom : q.bytes.length < q.declared ↔ data.length < n.toNat := by
    rw [PortState.declared_of_header hbytes, hbytes]
    simp only [List.length_cons]
    omega
  rw [PortState.strobe_of_receiving hq]
  exact if_congr hroom rfl rfl

/-! ### The answer goes back (R171) -/

theorem PortState.returnBytes_of_not_answering (hq : q.reception ≠ .answering) (n : Nat) : q.returnBytes n = q := by
  unfold PortState.returnBytes
  split
  next h => exact absurd h hq
  next => rfl

/-- With its last byte acknowledged the answer is over, and a FRAME that is high begins the next record. -/
theorem PortState.returnBytes_of_answering (hq : q.reception = .answering) (n : Nat) :
    q.returnBytes n =
      if n < q.answer.length then { q with answer := q.answer.drop n, returned := q.returned ++ q.answer.take n }
      else if q.frame = false then { q with reception := .idle, answer := [], returned := q.returned ++ q.answer }
      else { q with reception := .receiving, count := 0, bytes := [], ranLong := false, answer := [],
                    returned := q.returned ++ q.answer } := by
  rw [PortState.returnBytes, hq]
  dsimp only
  by_cases hmore : n < q.answer.length
  · rw [if_neg (Nat.not_le.2 hmore), if_pos hmore]
  · have hall : q.answer.length ≤ n := Nat.not_lt.1 hmore
    rw [if_pos hall, if_neg hmore, List.drop_eq_nil_of_le hall, List.take_of_length_le hall]
    cases q.frame with
    | true => rfl
    | false => rfl

/-! ### The obligation -/

/-- Settles O4: each event is one update of its port, which makes of the port's record what the lemma of its case says. -/
theorem portLinesAndBytes : Obligations.PortLinesAndBytes := by
  unfold Obligations.PortLinesAndBytes
  intro s p
  refine ⟨?rise, fun b => ⟨fun hq => ?ignored, fun hq hshort => ?header, fun h0 h1 h2 n data hq hbytes => ?data⟩,
    fun n => ⟨fun hq => ?noAnswer, fun hq => ?returned⟩, rfl⟩
  case rise => exact congrArg Host.Outcome.next (State.updPort_congr (PortState.raiseFrame_eq _))
  case ignored => exact congrArg Host.Outcome.next (State.updPort_congr (PortState.strobe_of_not_receiving hq b))
  case header => exact congrArg Host.Outcome.next (State.updPort_congr (PortState.strobe_of_short hq hshort b))
  case data => exact congrArg Host.Outcome.next (State.updPort_congr (PortState.strobe_of_header hq hbytes b))
  case noAnswer => exact congrArg Host.Outcome.next (State.updPort_eq_self (PortState.returnBytes_of_not_answering hq n))
  case returned => exact congrArg Host.Outcome.next (State.updPort_congr (PortState.returnBytes_of_answering hq n))

end Sys2Proof.Machine
end

section
/-! SUPPORT. The answer of a channel port (R171, R172, R179, R183): the attention flag, and the ending status byte as a number. -/

namespace Sys2Proof.Machine

/-- The attention flag is up exactly while the cause set is not empty (R179). -/
theorem Causes.flag_iff (c : Causes) :
    c.flag = true ↔ c.mark = true ∨ c.device = true ∨ c.run = true ∨ ∃ i : StreamNo, c.streams.get i = true := by
  have hstreams : c.streams.items.any id = true ↔ ∃ i : StreamNo, c.streams.get i = true := by
    rw [List.any_eq_true]
    constructor
    · rintro ⟨b, hb, hup⟩
      obtain ⟨i, rfl⟩ := c.streams.exists_get_of_mem hb
      exact ⟨i, hup⟩
    · rintro ⟨i, hup⟩
      exact ⟨c.streams.get i, c.streams.get_mem i, hup⟩
  simp only [Causes.flag, Bool.or_eq_true, hstreams, or_assoc]

/-- The four fields of the ending status byte by their weights (R183). -/
theorem statusByte_eq (a : Answer) (overflow attention notRunning : Bool) :
    statusByte a overflow attention notRunning =
      BitVec.ofNat 8 (64 * a.bits.toNat + 32 * overflow.toNat + 16 * attention.toNat + 8 * notRunning.toNat) := by
  unfold statusByte
  generalize a.bits = code
  revert code overflow attention notRunning
  decide

/-- Settles O6: the status byte by its weights, with the code and the reason byte of each answer. -/
theorem endingStatusIsFormed : Obligations.EndingStatusIsFormed := by
  unfold Obligations.EndingStatusIsFormed
  refine ⟨fun s p => (s.port p).causes.flag_iff, ?_⟩
  intro s p overflow frames a code reason
  have hcode : a.bits.toNat = code := by
    cases a with
    | taken | held | refused r => rfl
  have hreason : a.reasonBytes = reason := by
    cases a with
    | taken | held => rfl
    | refused r => cases r <;> rfl
  rw [State.answer, statusByte_eq, hcode, hreason]
  rfl

end Sys2Proof.Machine
end

section
/-! SUPPORT. Stops and starts by the run state they find (R185 to R187), and the STOP and RESUME controls. -/

namespace Sys2Proof.Machine

variable {s : State}

/-! ### Stop requests (R185, R186) -/

/-- STOPPING has begun and STOPPED is on its way. -/
theorem State.stopRequest_of_ended (hrun : s.run = .stopping ∨ s.run = .stopped) (c : Cause) : s.stopRequest c = s := by
  rw [State.stopRequest]
  cases hrun with
  | inl hrun | inr hrun => rw [hrun]

/-- A stop request ends RUN and CHECK: in STOPPED at rest, which raises the run-state cause on both ports, and in STOPPING otherwise. -/
theorem State.stopRequest_of_working (hrun : s.run = .run ∨ s.run = .check) (c : Cause) :
    s.stopRequest c =
      if s.outstanding = 0 ∧ s.taking = none then
        { s with run := .stopped, cause := c, ports := s.ports.map fun q => { q with causes := { q.causes with run := true } } }
      else { s with run := .stopping, cause := c } := by
  rw [State.stopRequest]
  cases hrun with
  | inl hrun =>
    rw [hrun]
    refine (State.testStopped_eq _).trans (if_congr ?_ rfl rfl)
    exact and_congr_right' (and_iff_right rfl)
  | inr hrun =>
    rw [hrun]
    exact if_congr s.atRest_iff (State.enterStopped_eq _) rfl

/-! ### Starts (R187) -/

theorem State.start_of_stopping_or_stopped (hrun : s.run = .stopping ∨ s.run = .stopped) : s.start = { s with run := .run } := by
  rw [State.start]
  cases hrun with
  | inl hrun | inr hrun => rw [hrun]

theorem State.start_of_run (hrun : s.run = .run) : s.start = s := by
  rw [State.start, hrun]

/-- Of the causes of CHECK a start clears JAM alone. -/
theorem State.start_of_check (hrun : s.run = .check) : s.start = if s.cause = .jam then { s with run := .run } else s := by
  rw [State.start, hrun]

/-! ### The obligation -/

/-- Settles O22: each clause by the lemma of its run state; the two controls carry their code alone and are taken by their rules. -/
theorem stopAndStartByRunState : Obligations.StopAndStartByRunState := by
  unfold Obligations.StopAndStartByRunState
  refine ⟨?byRunState, fun s p i carriage => ⟨fun hrec => ?stop, fun hrec => ?resume⟩⟩
  case byRunState =>
    intro s raised rest
    refine ⟨fun c => ⟨fun h => State.stopRequest_of_ended h c, fun h hrest => ?atRest, fun h hwork => ?working⟩,
      State.start_of_run, ?starts, fun h hcause => ?kept⟩
    case atRest => exact (State.stopRequest_of_working h c).trans (if_pos hrest)
    case working => exact (State.stopRequest_of_working h c).trans (if_neg hwork)
    case starts =>
      rintro (h | h | ⟨h, hjam⟩)
      · exact State.start_of_stopping_or_stopped (.inl h)
      · exact State.start_of_stopping_or_stopped (.inr h)
      · exact (State.start_of_check h).trans (if_pos hjam)
    case kept => exact (State.start_of_check h).trans (if_neg hcause)
  case stop | resume => exact congrArg Host.Outcome.next (State.endEvent_immediate_taken hrec rfl rfl)

end Sys2Proof.Machine
end

section
/-! SUPPORT. The panel: what one key does at a sample (R188), the table of commands read by its answer (R189), and the four commands of
the panel by what the sample gives. -/

namespace Sys2Proof.Machine

/-! ### One key at a sample (R188) -/

/-- A key becomes PRESSED at the second of two samples that find it pressed. -/
theorem Key.presses_iff (k : Key) (raw : Bool) :
    k.presses raw = true ↔ k.pressed = false ∧ k.raw = true ∧ raw = true := by
  obtain ⟨pressed, before⟩ := k
  cases before <;> cases raw <;> simp [Key.presses, Key.sample]

/-- A PRESSED key stays so unless two samples find it released. -/
theorem Key.held_iff (k : Key) (raw : Bool) :
    k.held raw = true ↔ k.pressed = true ∧ (k.raw = true ∨ raw = true) := by
  obtain ⟨pressed, before⟩ := k
  cases before <;> cases raw <;> simp [Key.held, Key.sample]

/-- A press is of a RELEASED key, a hold of a PRESSED one. -/
theorem Key.not_held_of_presses {k : Key} {raw : Bool} (h : k.presses raw = true) : ¬ k.held raw = true := by
  obtain ⟨hreleased, -, -⟩ := (k.presses_iff raw).mp h
  simp [Key.held, hreleased]

/-! ### The table of commands (R189) -/

section
variable {pressStart pressStop pressReset heldStart heldStop heldReset : Bool}

theorem panelTable_eq_purge_iff :
    panelTable pressStart pressStop pressReset heldStart heldStop heldReset = .purge ↔
      pressStart = true ∧ ¬ pressStop = true ∧ (heldReset = true ∨ pressReset = true) := by
  fun_cases panelTable <;> simp_all

theorem panelTable_eq_start_iff :
    panelTable pressStart pressStop pressReset heldStart heldStop heldReset = .start ↔
      pressStart = true ∧ ¬ pressStop = true ∧ ¬ pressReset = true ∧ ¬ heldReset = true ∧ ¬ heldStop = true := by
  fun_cases panelTable <;> simp_all

/-- The row of START and STOP pressing together leaves START's hold unread: a key that presses is not held. -/
theorem panelTable_eq_stop_iff (hstart : pressStart = true → ¬ heldStart = true) :
    panelTable pressStart pressStop pressReset heldStart heldStop heldReset = .stop ↔
      pressStop = true ∧ ¬ pressReset = true ∧ ¬ heldReset = true ∧ ¬ heldStart = true := by
  fun_cases panelTable <;> simp_all [or_iff_not_imp_right]

end

/-! ### A sample by the command it gives (log entry 8) -/

section
variable {s : State} {r : KeySample} {c : PanelCommand}

theorem State.panelSample_of_gives (h : s.keys.command r = c) (effect : State → State) :
    s.panelSample r c effect = effect { s with keys := s.keys.sample r } := if_pos h

theorem State.panelSample_of_gives_other (h : s.keys.command r ≠ c) (effect : State → State) :
    s.panelSample r c effect = s := if_neg h

end

/-- Settles O49: the table's three answers over the keys' presses and holds, and each panel command by whether the sample gives it. -/
theorem keysGiveACommand : Obligations.KeysGiveACommand := by
  unfold Obligations.KeysGiveACommand
  refine ⟨?keys, ?commands⟩
  case keys =>
    intro k r one presses held start stop reset
    simp only [start, stop, reset, presses, held, ← Key.presses_iff, ← Key.held_iff]
    exact ⟨rfl, panelTable_eq_purge_iff, panelTable_eq_start_iff, panelTable_eq_stop_iff Key.not_held_of_presses⟩
  case commands =>
    intro s k sampled
    have gives {c : PanelCommand} (effect : State → State) (h : s.keys.command k = c) :
        Host.Outcome.next (s.panelSample k c effect) = (.next (effect sampled) : Result) :=
      congrArg _ (State.panelSample_of_gives h effect)
    have ignored {c : PanelCommand} (effect : State → State) (h : s.keys.command k ≠ c) :
        Host.Outcome.next (s.panelSample k c effect) = (.next s : Result) :=
      congrArg _ (State.panelSample_of_gives_other h effect)
    exact ⟨gives _, gives _, gives _, gives _, ignored _, ignored _, ignored _, ignored _⟩

end Sys2Proof.Machine
end

section
/-! The queue of the commands that wait (log entries 3, 21): no operation of the part reads or writes it, so every command answers a next
state with the queue as it was. -/

namespace Sys2Proof.Machine

/-! ### Conditions and the run state (R13, R164, R185 to R187) -/

@[simp] theorem State.countIf_pending (s : State) (b : Bool) (i : StreamNo) (k : Cond) : (s.countIf b i k).pending = s.pending := by
  rw [State.countIf_frame]
@[simp] theorem State.deviceCond_pending (s : State) (d : DevCond) : (s.deviceCond d).pending = s.pending := by
  rw [State.deviceCond_eq]
@[simp] theorem State.testStopped_pending (s : State) : s.testStopped.pending = s.pending := by rw [State.testStopped_frame]
@[simp] theorem State.stopRequest_pending (s : State) (c : Cause) : (s.stopRequest c).pending = s.pending := by
  rw [State.stopRequest_frame]
@[simp] theorem State.engineCause_pending (s : State) (c : Cause) : (s.engineCause c).pending = s.pending := by
  rw [State.engineCause_frame]
@[simp] theorem State.start_pending (s : State) : s.start.pending = s.pending := by rw [State.start_frame]

/-! ### The Page Store and the overlay loads -/

@[simp] theorem State.emit_pending (s : State) (i : StreamNo) : (s.emit i).pending = s.pending := by rw [State.emit_frame]
@[simp] theorem State.closePage_pending (s : State) (i : StreamNo) : (s.closePage i).pending = s.pending := by
  rw [State.closePage_frame]
@[simp] theorem State.attachMark_pending (s : State) (i : StreamNo) (id : Word16) : (s.attachMark i id).pending = s.pending := by
  rw [State.attachMark_frame]
@[simp] theorem State.syncPages_pending (s : State) (i : StreamNo) : (s.syncPages i).pending = s.pending := by
  rw [State.syncPages_frame]
@[simp] theorem State.confirmCopy_pending (s : State) (r : PageRef) : (s.confirmCopy r).pending = s.pending := by
  rw [State.confirmCopy_frame]
@[simp] theorem State.abandonLoad_pending (s : State) (i : StreamNo) : (s.abandonLoad i).pending = s.pending := by
  rw [State.abandonLoad_frame]
@[simp] theorem State.completeLoad_pending (s : State) (i : StreamNo) : (s.completeLoad i).pending = s.pending := by
  rw [State.completeLoad_frame]

theorem State.beginTest_pending (s : State) (i : StreamNo) (k : Fin 8) : (s.beginTest i k).1.pending = s.pending := by
  have hlost : (s.ownLoadLost i).pending = s.pending := (State.countIf_pending _ _ i _).trans (s.abandonLoad_pending i)
  rw [State.beginTest_eq, ← hlost]
  dsimp only
  unfold State.ownPageClosed
  split
  · split
    · exact State.closePage_pending _ i
    · rfl
  · rfl

theorem State.beginLoad_pending (s : State) (i : StreamNo) (k : Fin 8) (n : Nat) : (s.beginLoad i k n).pending = s.pending := by
  unfold State.beginLoad
  dsimp only [State.updSlot_pending]
  split
  · split
    · rfl
    · exact s.countCond_pending _ _
  · rfl

theorem State.addEntries_pending (s : State) (i : StreamNo) (entries : List OverlayEntry) :
    (s.addEntries i entries).pending = s.pending := by
  unfold State.addEntries
  split
  · exact s.countCond_pending i _
  · split
    · exact s.countCond_pending i _
    · exact State.countIf_pending _ _ i _

theorem State.endLoad_pending (s : State) (i : StreamNo) : (s.endLoad i).pending = s.pending := by
  unfold State.endLoad
  split
  · exact s.countCond_pending i _
  · exact State.countIf_pending _ _ i _

/-! ### Cancellations and resets (R19, R190, R193) -/

theorem Cancelled.pending {after : Stream → Stream} {C : StreamNo → Bool} {s t : State} (h : Cancelled after C s t) :
    t.pending = s.pending := by
  rw [h.frame]

theorem State.resetPort_pending (s : State) (p : Port) : (s.resetPort p).pending = s.pending := by
  cases h : (s.port p).reset with
  | true => rw [State.resetPort_high h]
  | false =>
    rw [State.resetPort_low h]
    exact (State.foldl_unbindFrom_cancelled p allStreams (by decide) _).pending

theorem State.purge_pending (s : State) : s.purge.pending = s.pending := by
  have hall : s.purgeAll.pending = s.pending := by rw [State.purgeAll_frame]
  unfold State.purge
  split
  · exact hall
  · exact hall
  · rfl
  · rfl

/-! ### Imager, engine and panel -/

theorem State.select_pending (s : State) : s.select.pending = s.pending := by rw [State.select_frame]

theorem State.renderingDone_pending (s : State) : s.renderingDone.pending = s.pending := by
  unfold State.renderingDone
  split
  · rfl
  · split
    · rfl
    · refine (State.countIf_pending _ _ _ _).trans ?_
      split <;> rfl

theorem State.issueSheet_pending (s : State) : s.issueSheet.pending = s.pending := by
  unfold State.issueSheet
  split
  · split <;> rfl
  · rfl

theorem State.sendDone_pending (s : State) : s.sendDone.pending = s.pending := by
  unfold State.sendDone
  split
  · rfl
  · split
    · rfl
    · dsimp only
      split <;> rfl

theorem State.jamEvent_pending (s : State) (d : DevCond) (c : Cause) : (s.jamEvent d c).pending = s.pending := by
  unfold State.jamEvent
  rw [State.engineCause_pending, State.deviceCond_pending, State.recover_frame]

theorem State.stackedReport_pending (s : State) (tag : BitVec 4) : (s.stackedReport tag).pending = s.pending := by
  have hconfirmed : s.confirmOldest.pending = s.pending := by
    refine (State.testStopped_pending _).trans ?_
    split
    · exact State.confirmCopy_pending _ _
    · rfl
  unfold State.stackedReport
  split
  · split
    · exact hconfirmed
    · exact s.jamEvent_pending _ _
  · exact s.deviceCond_pending _

theorem State.lossOfReadiness_pending (s : State) (d : DevCond) (c : Cause) : (s.lossOfReadiness d c).pending = s.pending :=
  (State.engineCause_pending _ c).trans (State.deviceCond_pending _ d)

theorem State.numberedReport_pending (s : State) (n : Nat) (d : DevCond) (c : Cause) :
    (s.numberedReport n d c).pending = s.pending := by
  unfold State.numberedReport
  split
  · exact s.lossOfReadiness_pending d c
  · rfl

theorem State.readyReport_pending (s : State) : s.readyReport.pending = s.pending := by
  unfold State.readyReport
  dsimp only
  split <;> rfl

theorem State.stackTimerExpires_pending (s : State) : s.stackTimerExpires.pending = s.pending := by
  unfold State.stackTimerExpires
  split
  · exact s.jamEvent_pending _ _
  · rfl

theorem State.panelSample_pending (s : State) (r : KeySample) (c : PanelCommand) {effect : State → State}
    (h : ∀ u, (effect u).pending = u.pending) : (s.panelSample r c effect).pending = s.pending := by
  by_cases hgives : s.keys.command r = c
  · rw [State.panelSample_of_gives hgives, h]
  · rw [State.panelSample_of_gives_other hgives]

/-! ### Records at the gate (R4) -/

theorem State.refuse_pending (s : State) (p : Port) (bytes : List Byte) (r : Reason) : (s.refuse p bytes r).pending = s.pending := by
  show (s.countRefusal p (namedStream bytes) r).pending = s.pending
  unfold State.countRefusal
  split
  · rfl
  · split
    · exact s.countCond_pending _ _
    · rfl

/-- Where the ruling takes the record, the commands that wait are `x`. -/
def Ruling.Leaves (x : List Instr) : Ruling → Prop
  | .taken v _ _ => v.pending = x
  | .held => True
  | .refused _ => True

/-- A ruling by a test. -/
theorem Ruling.leaves_ite {c : Prop} [Decidable c] {x : List Instr} {a b : Ruling} (ha : a.Leaves x) (hb : b.Leaves x) :
    (if c then a else b).Leaves x := by
  split
  · exact ha
  · exact hb

/-- An end event leaves the commands that wait where its row's rule does. -/
theorem State.endEvent_pending {α : Type} (s : State) (row : Row) (p : Port) (operands : Header → Except Reason α)
    (rule : Header → α → State → Ruling) (hrule : ∀ h a u, (rule h a u).Leaves u.pending) :
    (s.endEvent row p operands rule).pending = s.pending := by
  have hrefuse : ∀ r, ((s.lowerFrame p).refuse p (s.port p).bytes r).pending = s.pending := fun r => State.refuse_pending _ p _ r
  rcases s.endEvent_cases row p operands rule with e | e | ⟨r, -, e⟩ | ⟨h, -, ⟨r, e⟩ | e | ⟨a, u, o, f, ht, e⟩⟩
  · rw [e]
  · rw [e]; rfl
  · exact e ▸ hrefuse r
  · exact e ▸ hrefuse r
  · rw [e]; rfl
  · have htaken := hrule h a (s.lowerFrame p)
    rw [ht.ruled] at htaken
    rw [e]
    exact htaken

section
variable (h : Header) (p : Port) (i : StreamNo) (u : State)

theorem queueControl_leaves (b : Body) : (queueControl h b u).Leaves u.pending := Ruling.leaves_ite trivial rfl

theorem closeRule_leaves (a : Unit) : (closeRule h a u).Leaves u.pending := Ruling.leaves_ite trivial rfl

theorem printRule_leaves (data : List Byte) : (printRule p h data u).Leaves u.pending :=
  Ruling.leaves_ite trivial ((State.countIf_pending _ _ _ _).trans (State.countIf_pending _ _ _ _))

theorem senseStreamRule_leaves : (senseStreamRule p i u).Leaves u.pending := Ruling.leaves_ite rfl trivial

theorem streamOpenRule_leaves (g : OpenOperands) : (streamOpenRule p i g u).Leaves u.pending := by
  unfold streamOpenRule
  split
  · exact Ruling.leaves_ite trivial rfl
  · exact Ruling.leaves_ite trivial rfl

theorem streamReleaseRule_leaves : (streamReleaseRule i u).Leaves u.pending := Ruling.leaves_ite trivial rfl

theorem formLoadRule_leaves (k : Fin 4) (form : Form) : (formLoadRule k form u).Leaves u.pending := Ruling.leaves_ite trivial rfl

theorem engineSetRule_leaves (g : EngineSettings) : (engineSetRule g u).Leaves u.pending := Ruling.leaves_ite rfl trivial

end

/-! ### The takings (R63) -/

theorem State.endGrant_pending (s : State) : s.endGrant.pending = s.pending := State.testStopped_pending _

theorem State.finishTaking_pending (s : State) (i : StreamNo) (r : Resolved) : (s.finishTaking i r).pending = s.pending := by
  have hsynced : ((s.dropHead i).actSync i r.sync).pending = s.pending := by
    unfold State.actSync
    split
    · exact (State.syncPages_pending _ i).trans (State.emit_pending _ i)
    · rfl
  unfold State.finishTaking State.actHalt
  refine (State.testStopped_pending _).trans ?_
  split
  · exact (State.stopRequest_pending _ _).trans hsynced
  · exact hsynced

/-- The steps a kind of record puts into R63 leave the commands that wait. -/
structure Taking.LeavesPending (k : Taking) : Prop where
  before : ∀ u, (k.before u).pending = u.pending
  tests : ∀ u, (k.tests u).1.pending = u.pending
  act : ∀ u, (k.act u).pending = u.pending

theorem State.carryOut_pending (s : State) (i : StreamNo) (r : Resolved) {k : Taking} (hk : k.LeavesPending) :
    (s.carryOut i r k).pending = s.pending := by
  have htested : (k.tests (k.before (s.beginGrant i))).1.pending = s.pending := (hk.tests _).trans (hk.before _)
  unfold State.carryOut
  dsimp only
  split
  · split
    · exact (State.endGrant_pending _).trans htested
    · exact (State.finishTaking_pending _ i r).trans ((hk.act _).trans htested)
  · exact State.endGrant_pending _

theorem State.take_pending {α : Type} (s : State) (pick : Body → Option α) {kind : State → StreamNo → Resolved → α → Taking}
    (hk : ∀ i r a, (kind s i r a).LeavesPending) : (s.take pick kind).pending = s.pending := by
  unfold State.take
  split
  · split
    · rfl
    · exact s.carryOut_pending _ _ (hk _ _ _)
  · split
    · split
      · exact s.endGrant_pending
      · rfl
    · rfl

section
variable (s : State) (i : StreamNo)

theorem printTaking_leavesPending (r : Resolved) (data : List Byte) : (printTaking s i r data).LeavesPending where
  before _ := rfl
  tests _ := rfl
  act u := by
    have hstruck : (u.afterStrike i r data).pending = u.pending := by simp [State.afterStrike]
    rw [printTaking_act]
    split
    · exact (State.emit_pending _ i).trans hstruck
    · exact hstruck

theorem markTaking_leavesPending (r : Resolved) (id : Word16) : (markTaking s i r id).LeavesPending where
  before _ := rfl
  tests _ := rfl
  act u := (State.attachMark_pending _ i id).trans (u.completeLoad_pending i)

theorem closeTaking_leavesPending : (closeTaking s i).LeavesPending where
  before u := u.emit_pending i
  tests _ := rfl
  act u := (State.closePage_pending _ i).trans (u.completeLoad_pending i)

/-- A queued control with its emission first. -/
theorem controlTaking_leavesPending {tests : State → State × Option Wait} {act : State → State}
    (htests : ∀ u, (tests u).1.pending = u.pending) (hact : ∀ u, (act u).pending = u.pending) :
    (controlTaking s i tests act).LeavesPending :=
  ⟨fun u => u.emit_pending i, htests, hact⟩

/-- A table load under its fence test (R80). -/
theorem controlTaking_fence_leavesPending (k : Fin 2) {act : State → State} (hact : ∀ u, (act u).pending = u.pending) :
    (controlTaking s i (fun u => u.fenceTest i k) act).LeavesPending :=
  controlTaking_leavesPending s i (fun u => by unfold State.fenceTest; split <;> rfl) hact

end

/-! ### Every command -/

/-- Settles O2, command by command: its arm answers one state, and the operations of that arm leave the commands that wait. -/
theorem everyCommandCompletes : Obligations.EveryCommandCompletes := by
  unfold Obligations.EveryCommandCompletes
  intro c s
  have keeps {t : State} (e : exec c s = .next t) (h : t.pending = s.pending) : ∃ t, exec c s = .next t ∧ t.pending = s.pending :=
    ⟨t, e, h⟩
  have gate {α : Type} {row : Row} {p : Port} {operands : Header → Except Reason α} {rule : Header → α → State → Ruling}
      (e : exec c s = .next (s.endEvent row p operands rule)) (hrule : ∀ h a u, (rule h a u).Leaves u.pending) :
      ∃ t, exec c s = .next t ∧ t.pending = s.pending := keeps e (s.endEvent_pending row p operands rule hrule)
  have takes {α : Type} {pick : Body → Option α} {kind : State → StreamNo → Resolved → α → Taking}
      (e : exec c s = .next (s.take pick kind)) (hk : ∀ i r a, (kind s i r a).LeavesPending) :
      ∃ t, exec c s = .next t ∧ t.pending = s.pending := keeps e (s.take_pending pick hk)
  cases c with
  | powerOnReset => exact keeps rfl rfl
  | portReset p => exact keeps rfl (s.resetPort_pending p)
  | resetRelease p | frameRise p | answerReturn p n | byteStrobe p b => exact keeps rfl rfl
  | print p => exact gate rfl fun h data u => printRule_leaves h p u data
  | mark p => exact gate rfl fun h id u => queueControl_leaves h u (.mark id)
  | close p => exact gate rfl fun h a u => closeRule_leaves h u a
  | xlateLoad p | pairLoad p | pairClear p | geometryLoad p | streamSet p | overlayBegin p | overlayEntries p | overlayEnd p =>
    exact gate rfl fun h b u => queueControl_leaves h u b
  | senseDevice p | senseMark p | portSet p | formSelect p => exact gate rfl fun _ _ _ => rfl
  | senseStream p => exact gate rfl fun _ i u => senseStreamRule_leaves p i u
  | streamOpen p => exact gate rfl fun h g u => streamOpenRule_leaves p h.stream u g
  | streamRelease p => exact gate rfl fun h _ u => streamReleaseRule_leaves h.stream u
  | cancel p => exact gate rfl fun h _ u => (u.cancelStream_cancelled h.stream).pending
  | formLoad p => exact gate rfl fun _ load u => formLoadRule_leaves u load.1 load.2
  | stop p => exact gate rfl fun _ _ u => u.stopRequest_pending _
  | resume p => exact gate rfl fun _ _ u => u.start_pending
  | engineSet p => exact gate rfl fun _ g u => engineSetRule_leaves u g
  | takePrint => exact takes rfl fun i r data => printTaking_leavesPending s i r data
  | takeMark => exact takes rfl fun i r id => markTaking_leavesPending s i r id
  | takeClose => exact takes rfl fun i _ _ => closeTaking_leavesPending s i
  | takeXlateLoad => exact takes rfl fun i _ load => controlTaking_fence_leavesPending s i load.1 fun _ => rfl
  | takePairLoad =>
    exact takes rfl fun i _ load => controlTaking_fence_leavesPending s i load.1 fun _ => State.countIf_pending _ _ i _
  | takePairClear => exact takes rfl fun i _ k => controlTaking_fence_leavesPending s i k fun _ => rfl
  | takeGeometryLoad | takeStreamSet =>
    exact takes rfl fun i _ _ => controlTaking_leavesPending s i (fun _ => rfl) fun _ => rfl
  | takeOverlayBegin =>
    exact takes rfl fun i _ load =>
      controlTaking_leavesPending s i (fun u => u.beginTest_pending i load.1) fun u => u.beginLoad_pending i load.1 load.2
  | takeOverlayEntries =>
    exact takes rfl fun i _ entries => controlTaking_leavesPending s i (fun _ => rfl) fun u => u.addEntries_pending i entries
  | takeOverlayEnd =>
    exact takes rfl fun i _ _ => controlTaking_leavesPending s i (fun _ => rfl) fun u => u.endLoad_pending i
  | pageAgeExpiry i => exact keeps rfl rfl
  | selection => exact keeps rfl s.select_pending
  | renderingComplete => exact keeps rfl s.renderingDone_pending
  | sheet => exact keeps rfl s.issueSheet_pending
  | sendComplete => exact keeps rfl s.sendDone_pending
  | ready => exact keeps rfl s.readyReport_pending
  | notReady => exact keeps rfl (s.lossOfReadiness_pending _ _)
  | trayEmpty n | stackerFull n => exact keeps rfl (s.numberedReport_pending n _ _)
  | stacked tag => exact keeps rfl (s.stackedReport_pending tag)
  | jam => exact keeps rfl (s.jamEvent_pending _ _)
  | restarted => exact keeps rfl (State.jamEvent_pending _ _ _)
  | unrecognisedReport code => exact keeps rfl rfl
  | stackTimeout => exact keeps rfl s.stackTimerExpires_pending
  | panelStart k => exact keeps rfl (s.panelSample_pending k _ State.start_pending)
  | panelStop k => exact keeps rfl (s.panelSample_pending k _ fun u => u.stopRequest_pending _)
  | purge k => exact keeps rfl (s.panelSample_pending k _ State.purge_pending)
  | keySample k => exact keeps rfl (s.panelSample_pending k _ fun _ => rfl)

end Sys2Proof.Machine
end
